-- ==== Sys2Proof/Word.lean ====
section
/-! DEFINITION. The words of the LG-418: bytes on the two buses, masks, and the numbered things of fixed number.
Quantities (luminance, lux, seconds, counts) are natural numbers, temperatures are integers (00 "Quantities", "Arithmetic");
only what the manual treats as bits is a bit vector. -/

namespace Sys2Proof

/-- One byte on a port's bus (R146, R147). -/
abbrev Byte := BitVec 8

/-- A zone number, 0 to 15. -/
abbrev Zone := Fin 16

/-- A set of zones: bit z stands for zone z (00 "Masks", R150). -/
abbrev ZoneMask := BitVec 16

/-- A set of months: bit 0 is January, bit 11 December (R150). -/
abbrev MonthMask := BitVec 12

/-- A set of weekdays: bit 0 is Sunday, bit 6 Saturday (R48, R150). -/
abbrev WeekdayMask := BitVec 7

/-- A set of attention causes: bit c - 1 stands for cause code c (R159). -/
abbrev CauseMask := BitVec 9

/-- A 7-bit two-wire address (R144). -/
abbrev Address := BitVec 7

/-- The number clamped to a range (00 "Ranges"). -/
def clamp (lo hi n : Nat) : Nat := max lo (min hi n)

/-- The integer clamped to a range (00 "Ranges"). -/
def clampInt (lo hi n : Int) : Int := max lo (min hi n)

end Sys2Proof
end

