-- ==== Sys2Proof/Config.lean ====
section
/-! DEFINITION. The sizes and limits the manual fixes for the part, each under the rule that states it.
One value the manual leaves open, the check value over an epoch entry, is an opaque function here; what it leaves to the
outside (straps, analog inputs, the contents a disturbance leaves, the order of two reports) is an operand of a command. -/

namespace Sys2Proof.Config

/-- A sensor's counter stops here (R26). -/
abbrev countStop : Nat := 262143

/-- A sensor is stuck when its counter stands here (R32). -/
abbrev stuckStop : Nat := 600

/-- The greatest illuminance, lux (00 "Quantities"). -/
abbrev luxMax : Nat := 120000

/-- The greatest luminance, cd/m² (00 "Quantities"). -/
abbrev levelMax : Nat := 12000

/-- The fallback lux while the schedule is not valid (R4, R36). -/
abbrev fallbackLux : Nat := 400

/-- The greatest number of override entries (R66). -/
abbrev stackMax : Nat := 8

/-- The journal holds at most this many records (R119, R127). -/
abbrev journalMax : Nat := 48

/-- A JOURNAL_READ returns at most this many records (R128). -/
abbrev journalBurst : Nat := 4

/-- Raise counts, missed counts and the count of argument bytes stop here (R120, R127, R146). -/
abbrev byteStop : Nat := 255

/-- A port stores at most this many argument bytes (R146). -/
abbrev argsStored : Nat := 48

/-- Counts in one PWM period (R86). -/
abbrev periodCounts : Nat := 4096

/-- Timebase edges in one second (R46). -/
abbrev edgesPerSecond : Nat := 32768

/-- The uptime counter wraps at this value (R161). -/
abbrev uptimeWrap : Nat := 4294967296

/-- A minimum width, in counts, of the ON and of the OFF time for a sample point (R105). -/
abbrev sampleRoom : Nat := 64

/-- The sync watch, milliseconds (R97). -/
abbrev syncWatchMs : Nat := 100

/-- The most rising edges one gate can bring: inputs of up to 3 MHz (11.6) over a gate of 100 ms (R26). -/
abbrev gateEdgesMax : Nat := 300000

/-- The greatest battery voltage of the electrical summary (11.6), millivolts. -/
abbrev batteryMax : Nat := 3600

/-- Full scale of a zone's sensed current, in the unit of the SAMPLE_POINT operand (R103; log 14). -/
abbrev currentFullScale : Nat := 65536

/-- The base address of the A-port (R144). -/
abbrev baseA : Address := 0x2C

/-- The base address of the O-port (R144). -/
abbrev baseO : Address := 0x3A

/-- The check value that the unit computes over the in-use flag, the month and weekday masks, the start minute, the commercial
and Authority ceilings, the fallback lux and the DARK flag of an epoch entry (R56). The manual gives neither its formula nor its
width, so nothing is known of it but that it is a function of those fields (log 9). -/
opaque epochParity (inUse : Bool) (months : MonthMask) (weekdays : WeekdayMask)
  (start commercial authority fallback : Nat) (dark : Bool) : Nat

end Sys2Proof.Config
end

