-- ==== Sys2Proof/Syntax.lean ====
section
/-! DEFINITION. The commands of the LG-418: one constructor for each row of spec/opcode_table.json.
The table gives no operands; a command's operands are the inputs that its governing rule takes from outside the part. -/

namespace Sys2Proof

/-- The two link ports (R144). -/
inductive Port where
  | a
  | o
  deriving DecidableEq, Repr

/-- Which ports end a request-carrying write at one moment (R132 gives the case of both). -/
inductive Taking where
  | one (p : Port)
  | both
  deriving DecidableEq, Repr

/-- The two sample points of a window (R105). -/
inductive SamplePoint where
  | on
  | off
  deriving DecidableEq, Repr

/-- The stored fields of an Epoch Table entry over which its parity is taken (R55, R56). -/
structure EpochFields where
  inUse : Bool
  months : MonthMask
  weekdays : WeekdayMask
  start : Nat
  commercial : Nat
  authority : Nat
  fallback : Nat
  dark : Bool
  deriving DecidableEq, Repr

/-- The parity computed afresh from the fields (R56; log 9). -/
def EpochFields.parity (f : EpochFields) : Nat :=
  Config.epochParity f.inUse f.months f.weekdays f.start f.commercial f.authority f.fallback f.dark

/-- Stored contents that a disturbance can leave in an Epoch Table entry (R56): every field at one of the values that R55 gives it,
whatever they are, and any parity value (log 9). -/
structure EpochContents where
  inUse : Bool
  months : { m : MonthMask // m ≠ 0 }
  weekdays : { w : WeekdayMask // w ≠ 0 }
  start : Fin 1440
  commercial : Fin 12001
  authority : Fin 12001
  fallback : Fin 120001
  dark : Bool
  parity : Nat
  deriving DecidableEq, Repr

/-- The fields of the contents (R55). -/
def EpochContents.fields (c : EpochContents) : EpochFields :=
  { inUse := c.inUse, months := c.months, weekdays := c.weekdays, start := c.start, commercial := c.commercial
    authority := c.authority, fallback := c.fallback, dark := c.dark }

/-- The commands. A command named after a request is the serving of that request by the Table Store: its argument bytes
stand in the port's slot (R132, R148), so its one operand is the port that took it. -/
inductive Instr where
  /-- RESOLVE_EXPIRY (R1). -/
  | resolveExpiry
  /-- GATE_COMPLETION (R29), with the rising edges of each sensor in the gate (R26). -/
  | gateCompletion (edges0 edges1 edges2 : Nat)
  /-- SECOND_ROLLOVER (R46). -/
  | secondRollover
  /-- TIMEBASE_FAILURE (R49), with the prescaler value at which the last edge left the clock. -/
  | timebaseFailure (prescaler : Fin 32768)
  /-- TIMEBASE_FIRST_EDGE (R50). -/
  | timebaseFirstEdge
  /-- UPTIME_SECOND (R161), with the battery voltage in millivolts (R162) and whether the battery's report is taken
  before Authority Control's (R125 leaves the order open). -/
  | uptimeSecond (batteryMv : Nat) (batteryFirst : Bool)
  /-- OVERRIDE_EXPIRED (R71). -/
  | overrideExpired
  /-- PRESENCE_TIMEOUT (R75). -/
  | presenceTimeout
  /-- PERIOD_END of a zone (R92). -/
  | periodEnd (z : Zone)
  /-- COUNT_CLOCK_SWITCH (R87). -/
  | countClockSwitch
  /-- SAMPLE_POINT of a zone (R106), with the sensed current in 1/65536 of full scale. -/
  | samplePoint (z : Zone) (pt : SamplePoint) (current : Nat)
  /-- CONVERSION_COMPLETION (R108), with the converter's code. -/
  | conversionCompletion (code : Fin 1024)
  /-- EBLANK_ACTIVE_EDGE (R78). -/
  | eblankActiveEdge
  /-- EBLANK_INACTIVE_EDGE (R78). -/
  | eblankInactiveEdge
  /-- KILL_START_UP_TAKE (R81), with the level of EBLANK first taken after a main reset. -/
  | killStartUpTake (high : Bool)
  /-- SYNC_EVENT (R96), with the level that FSYNC changed to. -/
  | syncEvent (high : Bool)
  /-- SYNC_WATCH_EXPIRY (R97). -/
  | syncWatchExpiry
  /-- REQUEST_TAKEN (R146). -/
  | requestTaken (w : Taking)
  /-- RESPONSE_READ (R147): a START, an address and the read direction on a port's bus. -/
  | responseRead (p : Port) (addr : Address)
  /-- UNKNOWN_CODE (R148). -/
  | unknownCode (p : Port)
  /-- STATUS (R154). -/
  | status (p : Port)
  /-- CLOCK_READ (R54). -/
  | clockRead (p : Port)
  /-- CLOCK_SET (R52). -/
  | clockSet (p : Port)
  /-- EPOCH_READ (R59). -/
  | epochRead (p : Port)
  /-- EPOCH_WRITE (R57). -/
  | epochWrite (p : Port)
  /-- EPOCH_ERASE (R58). -/
  | epochErase (p : Port)
  /-- CURVE_READ (R41). -/
  | curveRead (p : Port)
  /-- CURVE_WRITE (R42). -/
  | curveWrite (p : Port)
  /-- SENSOR_READ (R44). -/
  | sensorRead (p : Port)
  /-- SENSOR_SETUP (R28). -/
  | sensorSetup (p : Port)
  /-- ZONE_READ (R88). -/
  | zoneRead (p : Port)
  /-- ZONE_SETUP (R88). -/
  | zoneSetup (p : Port)
  /-- GAIN_READ (R7). -/
  | gainRead (p : Port)
  /-- GAIN_WRITE (R7). -/
  | gainWrite (p : Port)
  /-- ZONE_MODE (R100). -/
  | zoneMode (p : Port)
  /-- LEVEL_READ (R25). -/
  | levelRead (p : Port)
  /-- OVR_PUSH (R67). -/
  | ovrPush (p : Port)
  /-- OVR_REMOVE (R69). -/
  | ovrRemove (p : Port)
  /-- OVR_CLEAR (R69). -/
  | ovrClear (p : Port)
  /-- OVR_LIST (R70). -/
  | ovrList (p : Port)
  /-- KILL_SETUP (R80). -/
  | killSetup (p : Port)
  /-- KILL_RELEASE (R79). -/
  | killRelease (p : Port)
  /-- AUTH_SETUP (R83). -/
  | authSetup (p : Port)
  /-- AUTH_READ (R84). -/
  | authRead (p : Port)
  /-- GRANT_SET (R137). -/
  | grantSet (p : Port)
  /-- GRANT_READ (R139). -/
  | grantRead (p : Port)
  /-- FAULT_SETUP (R114). -/
  | faultSetup (p : Port)
  /-- FAULT_READ (R121). -/
  | faultRead (p : Port)
  /-- ZONE_REARM (R116). -/
  | zoneRearm (p : Port)
  /-- JOURNAL_READ (R128). -/
  | journalRead (p : Port)
  /-- ATTN_READ (R158). -/
  | attnRead (p : Port)
  /-- ATTN_MASK (R159). -/
  | attnMask (p : Port)
  /-- DRIVE_SETUP (R98). -/
  | driveSetup (p : Port)
  /-- DEVICE_RESET (R164). -/
  | deviceReset (p : Port)
  /-- BROWN_OUT (R163): the main supply falls below 2.90 V. -/
  | brownOut
  /-- MAIN_SUPPLY_RISE (R160): the main supply rises above 3.00 V. -/
  | mainSupplyRise
  /-- RESET_N_ASSERT (R163). -/
  | resetNAssert
  /-- RESET_N_RELEASE (R163). -/
  | resetNRelease
  /-- MAIN_RESET_END (R165), with the straps of the two ports (R144). -/
  | mainResetEnd (strapA strapO : Fin 4)
  /-- RETENTION_LOSS (R163). -/
  | retentionLoss
  /-- WRITE_ADDRESS (R145): a START, an address and the write direction on a port's bus. -/
  | writeAddress (p : Port) (addr : Address)
  /-- DATA_BYTE (R146). -/
  | dataByte (p : Port) (b : Byte)
  /-- FSYNC_LEVEL_TAKEN (R96), with the level taken. -/
  | fsyncLevelTaken (high : Bool)
  /-- BACKUP_STORAGE_DISTURBANCE (R56): the entry, and the contents the disturbance leaves in it. -/
  | backupStorageDisturbance (index : Fin 24) (contents : EpochContents)
  deriving DecidableEq, Repr

end Sys2Proof
end

