-- ==== Sys2Proof/WellFormed.lean ====
section
/-! DEFINITION. Which commands stand for an input the part can be given. Operand types carry every bound that is a plain
fact about one operand; what is left are the bounds of the electrical summary (11.6), of R26 and of R103. exec has a meaning for ill-formed commands too; it does not read this check. -/

namespace Sys2Proof

/-- The command is one the outside can give. -/
def Instr.wellFormed : Instr → Bool
  | .gateCompletion e0 e1 e2 =>
    decide (e0 ≤ Config.gateEdgesMax) && decide (e1 ≤ Config.gateEdgesMax) && decide (e2 ≤ Config.gateEdgesMax)
  | .uptimeSecond mv _ => decide (mv ≤ Config.batteryMax)
  | .samplePoint _ _ c => decide (c ≤ Config.currentFullScale)
  | .resolveExpiry | .secondRollover | .timebaseFailure _ | .timebaseFirstEdge | .overrideExpired | .presenceTimeout
  | .periodEnd _ | .countClockSwitch | .conversionCompletion _ | .eblankActiveEdge | .eblankInactiveEdge
  | .killStartUpTake _ | .syncEvent _ | .syncWatchExpiry | .requestTaken _ | .responseRead _ _ | .unknownCode _
  | .status _ | .clockRead _ | .clockSet _ | .epochRead _ | .epochWrite _ | .epochErase _ | .curveRead _
  | .curveWrite _ | .sensorRead _ | .sensorSetup _ | .zoneRead _ | .zoneSetup _ | .gainRead _ | .gainWrite _
  | .zoneMode _ | .levelRead _ | .ovrPush _ | .ovrRemove _ | .ovrClear _ | .ovrList _ | .killSetup _
  | .killRelease _ | .authSetup _ | .authRead _ | .grantSet _ | .grantRead _ | .faultSetup _ | .faultRead _
  | .zoneRearm _ | .journalRead _ | .attnRead _ | .attnMask _ | .driveSetup _ | .deviceReset _ | .brownOut
  | .mainSupplyRise | .resetNAssert | .resetNRelease | .mainResetEnd _ _ | .retentionLoss | .writeAddress _ _
  | .dataByte _ _ | .fsyncLevelTaken _ | .backupStorageDisturbance _ _ => true

end Sys2Proof
end

