-- ==== Sys2Proof/Decode.lean ====
section
/-! DEFINITION. The command that a word spells by the bits of spec/opcode_table.json. No row of the table has any bits
("fields" is empty in every row), so no word spells a command (log 25). The LG-418's own codes, the request codes of R151,
are read from a port's slot when a request is served: see Sys2Proof/Machine/Requests.lean. -/

namespace Sys2Proof

/-- The command spelled by the `nbits` low bits of `w`: none, since no row of the table has bits. -/
def decodeTableWord (_nbits _w : Nat) : Option Instr := none

end Sys2Proof
end

