-- ==== Sys2Proof/Machine/Banks.lean ====
section
/-! DEFINITION. A fixed number of like things, held as plain data: one for each zone, each epoch entry, each sensor, each
zone fault kind, each curve point, each port. `get` reads one, `ofFn` builds all, `set` replaces one. -/

namespace Sys2Proof.Machine

/-- One thing for each zone 0 to 15. -/
structure ZoneBank (α : Type) where
  (e0 e1 e2 e3 e4 e5 e6 e7 e8 e9 e10 e11 : α)
  (e12 e13 e14 e15 : α)
  deriving DecidableEq, Repr

/-- The thing of number `i`. -/
def ZoneBank.get {α : Type} (b : ZoneBank α) (i : Zone) : α :=
  match i.val with
  | 0 => b.e0
  | 1 => b.e1
  | 2 => b.e2
  | 3 => b.e3
  | 4 => b.e4
  | 5 => b.e5
  | 6 => b.e6
  | 7 => b.e7
  | 8 => b.e8
  | 9 => b.e9
  | 10 => b.e10
  | 11 => b.e11
  | 12 => b.e12
  | 13 => b.e13
  | 14 => b.e14
  | _ => b.e15

/-- The bank whose thing of number `i` is `f i`. -/
def ZoneBank.ofFn {α : Type} (f : Zone → α) : ZoneBank α :=
  ⟨f 0, f 1, f 2, f 3, f 4, f 5, f 6, f 7, f 8, f 9, f 10, f 11,
    f 12, f 13, f 14, f 15⟩

/-- The bank with the thing of number `i` replaced. -/
def ZoneBank.set {α : Type} (b : ZoneBank α) (i : Zone) (a : α) : ZoneBank α :=
  ZoneBank.ofFn fun j => if j = i then a else b.get j

/-- The bank with each thing replaced by what `f` makes of its number and of it. -/
def ZoneBank.mapIdx {α : Type} (b : ZoneBank α) (f : Zone → α → α) : ZoneBank α :=
  ZoneBank.ofFn fun j => f j (b.get j)

/-- One thing for each Epoch Table entry 0 to 23 (R55). -/
structure EpochBank (α : Type) where
  (e0 e1 e2 e3 e4 e5 e6 e7 e8 e9 e10 e11 : α)
  (e12 e13 e14 e15 e16 e17 e18 e19 e20 e21 e22 e23 : α)
  deriving DecidableEq, Repr

/-- The thing of number `i`. -/
def EpochBank.get {α : Type} (b : EpochBank α) (i : Fin 24) : α :=
  match i.val with
  | 0 => b.e0
  | 1 => b.e1
  | 2 => b.e2
  | 3 => b.e3
  | 4 => b.e4
  | 5 => b.e5
  | 6 => b.e6
  | 7 => b.e7
  | 8 => b.e8
  | 9 => b.e9
  | 10 => b.e10
  | 11 => b.e11
  | 12 => b.e12
  | 13 => b.e13
  | 14 => b.e14
  | 15 => b.e15
  | 16 => b.e16
  | 17 => b.e17
  | 18 => b.e18
  | 19 => b.e19
  | 20 => b.e20
  | 21 => b.e21
  | 22 => b.e22
  | _ => b.e23

/-- The bank whose thing of number `i` is `f i`. -/
def EpochBank.ofFn {α : Type} (f : Fin 24 → α) : EpochBank α :=
  ⟨f 0, f 1, f 2, f 3, f 4, f 5, f 6, f 7, f 8, f 9, f 10, f 11,
    f 12, f 13, f 14, f 15, f 16, f 17, f 18, f 19, f 20, f 21, f 22, f 23⟩

/-- The bank with the thing of number `i` replaced. -/
def EpochBank.set {α : Type} (b : EpochBank α) (i : Fin 24) (a : α) : EpochBank α :=
  EpochBank.ofFn fun j => if j = i then a else b.get j

/-- The bank with each thing replaced by what `f` makes of its number and of it. -/
def EpochBank.mapIdx {α : Type} (b : EpochBank α) (f : Fin 24 → α → α) : EpochBank α :=
  EpochBank.ofFn fun j => f j (b.get j)

/-- One thing for each sensor S0, S1, S2 (R26). -/
structure SensorBank (α : Type) where
  (e0 e1 e2 : α)
  deriving DecidableEq, Repr

/-- The thing of number `i`. -/
def SensorBank.get {α : Type} (b : SensorBank α) (i : Fin 3) : α :=
  match i.val with
  | 0 => b.e0
  | 1 => b.e1
  | _ => b.e2

/-- The bank whose thing of number `i` is `f i`. -/
def SensorBank.ofFn {α : Type} (f : Fin 3 → α) : SensorBank α :=
  ⟨f 0, f 1, f 2⟩

/-- The bank with the thing of number `i` replaced. -/
def SensorBank.set {α : Type} (b : SensorBank α) (i : Fin 3) (a : α) : SensorBank α :=
  SensorBank.ofFn fun j => if j = i then a else b.get j

/-- The bank with each thing replaced by what `f` makes of its number and of it. -/
def SensorBank.mapIdx {α : Type} (b : SensorBank α) (f : Fin 3 → α → α) : SensorBank α :=
  SensorBank.ofFn fun j => f j (b.get j)

/-- One thing for each point 0 to 8 of the Ambient Curve (R41). -/
structure PointBank (α : Type) where
  (e0 e1 e2 e3 e4 e5 e6 e7 e8 : α)
  deriving DecidableEq, Repr

/-- The thing of number `i`. -/
def PointBank.get {α : Type} (b : PointBank α) (i : Fin 9) : α :=
  match i.val with
  | 0 => b.e0
  | 1 => b.e1
  | 2 => b.e2
  | 3 => b.e3
  | 4 => b.e4
  | 5 => b.e5
  | 6 => b.e6
  | 7 => b.e7
  | _ => b.e8

/-- The bank whose thing of number `i` is `f i`. -/
def PointBank.ofFn {α : Type} (f : Fin 9 → α) : PointBank α :=
  ⟨f 0, f 1, f 2, f 3, f 4, f 5, f 6, f 7, f 8⟩

/-- The bank with the thing of number `i` replaced. -/
def PointBank.set {α : Type} (b : PointBank α) (i : Fin 9) (a : α) : PointBank α :=
  PointBank.ofFn fun j => if j = i then a else b.get j

/-- The bank with each thing replaced by what `f` makes of its number and of it. -/
def PointBank.mapIdx {α : Type} (b : PointBank α) (f : Fin 9 → α → α) : PointBank α :=
  PointBank.ofFn fun j => f j (b.get j)

/-- The zone numbers in ascending order. -/
def allZones : List Zone := [0, 1, 2, 3, 4, 5, 6, 7, 8, 9, 10, 11, 12, 13, 14, 15]

/-- The epoch entry numbers in ascending order. -/
def allEntries : List (Fin 24) :=
  [0, 1, 2, 3, 4, 5, 6, 7, 8, 9, 10, 11, 12, 13, 14, 15, 16, 17, 18, 19, 20, 21, 22, 23]

/-- The points of a curve in order. -/
def PointBank.toList {α : Type} (b : PointBank α) : List α :=
  [b.e0, b.e1, b.e2, b.e3, b.e4, b.e5, b.e6, b.e7, b.e8]

/-- One thing for each port. -/
structure PortPair (α : Type) where
  a : α
  o : α
  deriving DecidableEq, Repr

/-- The thing of port `p`. -/
def PortPair.get {α : Type} (b : PortPair α) : Port → α
  | .a => b.a
  | .o => b.o

/-- The pair with the thing of port `p` replaced. -/
def PortPair.set {α : Type} (b : PortPair α) (p : Port) (x : α) : PortPair α :=
  match p with
  | .a => ⟨x, b.o⟩
  | .o => ⟨b.a, x⟩

/-- The pair with each thing replaced. -/
def PortPair.map {α : Type} (b : PortPair α) (f : α → α) : PortPair α := ⟨f b.a, f b.o⟩

/-- The five zone fault kinds, in the order of R116 and R121. -/
inductive FaultKind where
  | openString
  | shortString
  | stuckOn
  | overtemp
  | thermFault
  deriving DecidableEq, Repr

/-- One thing for each zone fault kind (R120). -/
structure KindBank (α : Type) where
  openString : α
  shortString : α
  stuckOn : α
  overtemp : α
  thermFault : α
  deriving DecidableEq, Repr

/-- The thing of kind `k`. -/
def KindBank.get {α : Type} (b : KindBank α) : FaultKind → α
  | .openString => b.openString
  | .shortString => b.shortString
  | .stuckOn => b.stuckOn
  | .overtemp => b.overtemp
  | .thermFault => b.thermFault

/-- The bank with the thing of kind `k` replaced. -/
def KindBank.set {α : Type} (b : KindBank α) (k : FaultKind) (x : α) : KindBank α :=
  match k with
  | .openString => { b with openString := x }
  | .shortString => { b with shortString := x }
  | .stuckOn => { b with stuckOn := x }
  | .overtemp => { b with overtemp := x }
  | .thermFault => { b with thermFault := x }

/-- The bank with each thing replaced. -/
def KindBank.map {α : Type} (b : KindBank α) (f : α → α) : KindBank α :=
  ⟨f b.openString, f b.shortString, f b.stuckOn, f b.overtemp, f b.thermFault⟩

/-- The fault kinds in the order in which ZONE_REARM's records and FAULT_READ's entries stand (R116, R121). -/
def allKinds : List FaultKind := [.openString, .shortString, .stuckOn, .overtemp, .thermFault]

end Sys2Proof.Machine
end

