-- ==== Sys2Proof/Machine/Tables.lean ====
section
/-! DEFINITION. The state of the eleven blocks as plain data, block by block, with the names and fields of the rules that
list them. -/

namespace Sys2Proof.Machine

/-! ### Link ports (R144) -/

/-- The result codes of a request (09 "Status codes"). -/
inductive Status where
  | ok
  | pending
  | denied
  | range
  | length
  | unknown
  | full
  | notFound
  | badCurve
  | noClock
  | active
  | none
  deriving DecidableEq, Repr

/-- A response: its status and data; the length byte is the number of data bytes (R144, R147). -/
structure Response where
  status : Status
  data : List Byte
  deriving DecidableEq, Repr

/-- A request in a slot: code byte, stored argument bytes, count of argument bytes received (R144, R146). -/
structure Request where
  code : Byte
  args : List Byte
  count : Nat
  deriving DecidableEq, Repr

/-- The receive state of a port (R144). -/
inductive Receive where
  | idle
  | receiving (code : Option Byte) (args : List Byte) (count : Nat)
  deriving DecidableEq, Repr

/-- One link port (R144). `lastAck` records the acknowledge the port last put on its bus (R145, R146, R147; log 20). -/
structure LinkPort where
  address : Address
  receive : Receive
  slot : Option Request
  response : Response
  snapshot : Option Response
  lastAck : Bool
  deriving DecidableEq, Repr

/-! ### Table Store and Grant Map (R132, R135) -/

/-- The five grantable groups (R135). -/
inductive Group where
  | curve
  | zoneSetup
  | faultSetup
  | clock
  | driveTiming
  deriving DecidableEq, Repr

/-- The Grant Map: the holder of each group, AUTHORITY written as the A-port and OPERATOR as the O-port (R135). -/
structure GrantMap where
  curve : Port
  zoneSetup : Port
  faultSetup : Port
  clock : Port
  driveTiming : Port
  deriving DecidableEq, Repr

/-- The holder of a group (R135). -/
def GrantMap.holder (m : GrantMap) : Group → Port
  | .curve => m.curve
  | .zoneSetup => m.zoneSetup
  | .faultSetup => m.faultSetup
  | .clock => m.clock
  | .driveTiming => m.driveTiming

/-- The Table Store: IDLE (none) or SERVING a port's request (R132), and the Grant Map (R135). -/
structure TableStore where
  serving : Option Port
  grants : GrantMap
  deriving DecidableEq, Repr

/-! ### Civil Clock and Schedule Unit (R45, R55, R60) -/

/-- A calendar date and time of day (R45). -/
structure CivilTime where
  year : Nat
  month : Nat
  day : Nat
  hour : Nat
  minute : Nat
  second : Nat
  deriving DecidableEq, Repr

/-- One Epoch Table entry (R55), with its stored parity value (R56; log 9). -/
structure EpochEntry where
  fields : EpochFields
  parity : Nat
  reported : Bool
  deriving DecidableEq, Repr

/-- The active epoch record when it is not none (R60). -/
structure ActiveEpoch where
  index : Fin 24
  commercial : Nat
  authority : Nat
  fallback : Nat
  dark : Bool
  deriving DecidableEq, Repr

/-- The Civil Clock and Schedule Unit (R45, R55, R60). -/
structure ClockUnit where
  time : CivilTime
  prescaler : Nat
  valid : Bool
  failed : Bool
  epochs : EpochBank EpochEntry
  active : Option ActiveEpoch
  deriving DecidableEq, Repr

/-! ### Ambient Estimator (R27) -/

/-- The setup of one sensor (R27). -/
structure SensorSetup where
  enable : Bool
  scale : Nat
  deriving DecidableEq, Repr

/-- A whole sensor setup record (R27, R28). -/
structure EstimatorSetup where
  sensors : SensorBank SensorSetup
  alpha : Nat
  deriving DecidableEq, Repr

/-- The invalid reason of a sensor; NONE exactly when the sensor is VALID (R27). -/
inductive SensorReason where
  | none
  | disabled
  | saturated
  | stuck
  | noSample
  deriving DecidableEq, Repr

/-- One sensor (R26, R27). `pulses` is the running counter, `count` the count latched at the last gate completion. -/
structure Sensor where
  pulses : Nat
  count : Nat
  lux : Nat
  reason : SensorReason
  stuck : Nat
  deriving DecidableEq, Repr

/-- A point of the Ambient Curve: breakpoint in lux, level in cd/m² (R41). -/
structure CurvePoint where
  b : Nat
  l : Nat
  deriving DecidableEq, Repr

/-- The Ambient Estimator (R27). -/
structure Ambient where
  staged : EstimatorSetup
  working : EstimatorSetup
  setupPending : Bool
  sensors : SensorBank Sensor
  fused : Nat
  filtered : Option Nat
  spike : Nat
  grade : Nat
  curve : PointBank CurvePoint
  deriving DecidableEq, Repr

/-! ### Authority Control (R65, R66, R82) -/

/-- What an override does (R66). -/
inductive OverrideKind where
  | cap
  | blank
  | force
  deriving DecidableEq, Repr

/-- The remaining seconds of an override: `never` is the wire value 0, an entry that does not expire; `seconds n` counts
down, and stands at 0 only inside the uptime second that expires the entry (R66, R71; log 18). -/
inductive Lifetime where
  | never
  | seconds (n : Nat)
  deriving DecidableEq, Repr

/-- One entry of the Override Stack (R66). -/
structure Override where
  id : Nat
  kind : OverrideKind
  mask : ZoneMask
  level : Nat
  priority : Nat
  remaining : Lifetime
  deriving DecidableEq, Repr

/-- The Presence Timer (R74). -/
inductive Presence where
  | disabled
  | seconds (n : Nat)
  deriving DecidableEq, Repr

/-- The two modes of Authority Control (R65). -/
inductive Mode where
  | normal
  | failsafe
  deriving DecidableEq, Repr

/-- Why the mode is FAILSAFE (R65). -/
inductive FailsafeOrigin where
  | reset
  | presence
  deriving DecidableEq, Repr

/-- The kill mode (R78). -/
inductive KillMode where
  | level
  | latch
  deriving DecidableEq, Repr

/-- ACTIVE_HIGH or ACTIVE_LOW, for EBLANK (R77) and for zone outputs (R88). -/
inductive Polarity where
  | activeHigh
  | activeLow
  deriving DecidableEq, Repr

/-- The kill setup (R65, R80). -/
structure KillSetup where
  mode : KillMode
  polarity : Polarity
  mask : ZoneMask
  deriving DecidableEq, Repr

/-- The Authority settings record (R82). -/
structure AuthSettings where
  failsafeCommercial : Nat
  failsafeAuthority : Nat
  window : Nat
  upAbs : Nat
  upRel : Nat
  downAbs : Nat
  downRel : Nat
  knee : Int
  cut : Int
  deriving DecidableEq, Repr

/-- Authority Control (R65). `eblank` is the sampled level of the EBLANK input, none until it is first taken after a main
reset (R77, R81). -/
structure Authority where
  stack : List Override
  presence : Presence
  mode : Mode
  origin : FailsafeOrigin
  eblank : Option Bool
  latch : Bool
  kill : KillSetup
  settings : AuthSettings
  deriving DecidableEq, Repr

/-! ### Luminance Resolver (R2) -/

/-- The name of the limit that set a ceiling (R2, R15). -/
inductive CeilingReason where
  | none
  | schedule
  | failsafe
  | cap
  | force
  | thermal
  | fault
  | physical
  deriving DecidableEq, Repr

/-- A zone's operator mode (R2, R100). -/
inductive OperatorMode where
  | on
  | off
  deriving DecidableEq, Repr

/-- What the Resolver holds for one zone (R2). `fromZero` says that a lockout of the zone ended at a rearm after the last resolve
expiry, so that the next one resolves it from a present level of 0 (R116; log 30). -/
structure ResolverZone where
  present : Nat
  target : Nat
  ceiling : Nat
  reason : CeilingReason
  duty : Nat
  gain : Nat
  operator : OperatorMode
  fromZero : Bool
  deriving DecidableEq, Repr

/-! ### Zone Drive Engine (R85, R88) -/

/-- The class of a zone (R88). -/
inductive ZoneClass where
  | commercial
  | authority
  deriving DecidableEq, Repr

/-- A zone record (R88). -/
structure ZoneRecord where
  installed : Bool
  cls : ZoneClass
  polarity : Polarity
  lmax : Nat
  minOn : Nat
  phase : Nat
  deriving DecidableEq, Repr

/-- An output mode (R85). -/
inductive OutputMode where
  | pwm
  | off
  | float
  deriving DecidableEq, Repr

/-- One zone channel of the engine (R85). -/
structure Channel where
  record : ZoneRecord
  activeDuty : Nat
  dutyBuffer : Nat
  swapPending : Bool
  armed : Bool
  activeMode : OutputMode
  bufferedMode : OutputMode
  compare : Nat
  acc : Nat
  polarity : Polarity
  firstPeriod : Bool
  phase : Nat
  hold : Bool
  supplyEnable : Bool
  deriving DecidableEq, Repr

/-- The four PWM base frequencies (R87). -/
inductive BaseFrequency where
  | hz600
  | hz1200
  | hz2400
  | hz4800
  deriving DecidableEq, Repr

/-- The FSYNC edge modes (R85). -/
inductive EdgeMode where
  | disabled
  | rising
  | falling
  | both
  deriving DecidableEq, Repr

/-- The swap modes (R85). -/
inductive SwapMode where
  | auto
  | frame
  deriving DecidableEq, Repr

/-- The Zone Drive Engine (R85). `countRate` is the count clock in force, which follows `baseFrequency` at the next count
clock edge (R87). `fsync` is the taken FSYNC level, none until it is first taken after a main reset (R96). -/
structure Drive where
  zones : ZoneBank Channel
  sharedCount : Nat
  baseFrequency : BaseFrequency
  countRate : BaseFrequency
  edgeMode : EdgeMode
  swapMode : SwapMode
  syncLost : Bool
  syncWatch : Nat
  fsync : Option Bool
  deriving DecidableEq, Repr

/-! ### String and Thermal Monitor (R103) -/

/-- A fault reaction (R103). -/
inductive Reaction where
  | none
  | dim
  | off
  deriving DecidableEq, Repr

/-- The window state of a zone; an open window holds the local counts of the sample points not yet reached (R104, R105). -/
inductive Window where
  | idle
  | waiting
  | opened (onPoint offPoint : Option Nat)
  deriving DecidableEq, Repr

/-- A stored temperature conversion: code and degrees Celsius (R108). -/
structure Conversion where
  code : Nat
  celsius : Int
  deriving DecidableEq, Repr

/-- What the Monitor holds for one zone (R103). -/
structure MonitorZone where
  openThreshold : Nat
  shortThreshold : Nat
  openReaction : Reaction
  shortReaction : Reaction
  stuckReaction : Reaction
  overtempReaction : Reaction
  latest : Option Conversion
  lockout : Bool
  window : Window
  deriving DecidableEq, Repr

/-- The conversion in progress: its zone, and whether uninstallation has discarded it (R107, R117). -/
structure Scan where
  zone : Zone
  discarded : Bool
  deriving DecidableEq, Repr

/-- The String and Thermal Monitor (R103). -/
structure Monitor where
  zones : ZoneBank MonitorZone
  limit : Nat
  scanCut : Int
  scan : Option Scan
  deriving DecidableEq, Repr

/-! ### Fault Recorder (R119, R120, R122, R123) -/

/-- A timestamp (R124). -/
inductive Timestamp where
  | civil (t : CivilTime)
  | uptime (seconds : Nat)
  deriving DecidableEq, Repr

/-- One Fault Table entry (R120). -/
structure FaultEntry where
  count : Nat
  asserted : Bool
  raises : Nat
  lastRaised : Option Timestamp
  deriving DecidableEq, Repr

/-- The device-condition record (R122). -/
structure Conditions where
  sensorInvalid : SensorBank Bool
  syncLost : Bool
  kill : Bool
  clockInvalid : Bool
  failsafe : Bool
  batteryLow : Bool
  backupLost : Bool
  deriving DecidableEq, Repr

/-- The source of a journal record (R123). -/
inductive Source where
  | zone (z : Zone)
  | device
  deriving DecidableEq, Repr

/-- The kind of a journal record (R123). -/
inductive JournalKind where
  | zoneFault (k : FaultKind)
  | sensorInvalid
  | syncLost
  | kill
  | clockInvalid
  | failsafe
  | batteryLow
  | tableParity
  | backupLost
  deriving DecidableEq, Repr

/-- The transition of a journal record (R123). -/
inductive Transition where
  | raised
  | cleared
  | event
  deriving DecidableEq, Repr

/-- A report as a block hands it to the Recorder: a journal record without its timestamp (R123, R125). -/
structure Report where
  source : Source
  kind : JournalKind
  transition : Transition
  detail : Nat
  deriving DecidableEq, Repr

/-- A journal record (R123). -/
structure JournalRecord where
  stamp : Timestamp
  report : Report
  deriving DecidableEq, Repr

/-- The Fault Recorder (R119). The journal stands oldest first; its length is the held count. -/
structure Recorder where
  table : ZoneBank (KindBank FaultEntry)
  conditions : Conditions
  journal : List JournalRecord
  unread : PortPair Nat
  missed : PortPair Nat
  deriving DecidableEq, Repr

/-! ### Attention Logic (R155) -/

/-- The Attention Logic (R155). -/
structure Attention where
  mask : PortPair CauseMask
  grade : PortPair Bool
  overrideExpired : Bool
  grant : Bool
  lastExpired : Nat
  deriving DecidableEq, Repr

/-! ### Supply Supervisor (R161 to R163) -/

/-- The reset causes (R163). -/
inductive ResetCause where
  | power
  | pin
  | request
  | totalLoss
  deriving DecidableEq, Repr

/-- The Supply Supervisor. `supplyLow` says that the POWER source holds, that is, that the main supply is down and the backup
domain runs on battery (R160); `pinLow` that RESET_N holds the reset; `lastSource` is the source that began last (R163).
`battery` is none for NOT_MEASURED (R162). -/
structure Supply where
  cause : ResetCause
  backupLost : Bool
  battery : Option Nat
  uptime : Nat
  inReset : Bool
  supplyLow : Bool
  pinLow : Bool
  lastSource : ResetCause
  retentionLost : Bool
  deriving DecidableEq, Repr

end Sys2Proof.Machine
end

