-- ==== Sys2Proof/Machine/Defaults.lean ====
section
/-! DEFINITION. The values a main reset and a total loss give each block, from the last columns of the state tables. -/

namespace Sys2Proof.Machine

/-- A port after a main reset, at the base address plus the strap (R144). -/
def portAfterReset (base : Address) (strap : Fin 4) : LinkPort :=
  { address := base + BitVec.ofNat 7 strap.val, receive := .idle, slot := none, response := ⟨.none, []⟩,
    snapshot := none, lastAck := false }

/-- The Grant Map after a total loss (R135). -/
def defaultGrants : GrantMap :=
  { curve := .o, zoneSetup := .a, faultSetup := .o, clock := .a, driveTiming := .o }

/-- The civil time after a total loss (R45). -/
def defaultTime : CivilTime := { year := 2000, month := 1, day := 1, hour := 0, minute := 0, second := 0 }

/-- The fields of an epoch entry after a total loss (R55). -/
def defaultEpochFields : EpochFields :=
  { inUse := false, months := 0xFFF, weekdays := 0x7F, start := 0, commercial := 0, authority := 0, fallback := 0,
    dark := false }

/-- An epoch entry after a total loss: its parity is correct for its fields (R55). -/
def defaultEpoch : EpochEntry :=
  { fields := defaultEpochFields, parity := defaultEpochFields.parity, reported := false }

/-- The clock unit after a total loss (R45, R55, R60). -/
def clockAfterLoss : ClockUnit :=
  { time := defaultTime, prescaler := 0, valid := false, failed := false,
    epochs := .ofFn fun _ => defaultEpoch, active := none }

/-- The sensor setup after a main reset (R27). -/
def defaultSetup : EstimatorSetup := { sensors := .ofFn fun _ => ⟨true, 1024⟩, alpha := 4 }

/-- The default curve (R41, 02 section 2.6). -/
def defaultCurve : PointBank CurvePoint :=
  ⟨⟨0, 40⟩, ⟨10, 80⟩, ⟨100, 200⟩, ⟨1000, 600⟩, ⟨5000, 1500⟩, ⟨15000, 3000⟩, ⟨40000, 5000⟩, ⟨80000, 6500⟩,
    ⟨120000, 7000⟩⟩

/-- The Ambient Estimator after a main reset (R26, R27, R41). -/
def ambientAfterReset : Ambient :=
  { staged := defaultSetup, working := defaultSetup, setupPending := false,
    sensors := .ofFn fun _ => { pulses := 0, count := 0, lux := 0, reason := .noSample, stuck := 0 },
    fused := 0, filtered := none, spike := 0, grade := 0, curve := defaultCurve }

/-- The kill setup after a total loss (R65). -/
def defaultKill : KillSetup := { mode := .level, polarity := .activeLow, mask := 0xFFFF }

/-- The Authority settings record after a total loss (R82). -/
def defaultSettings : AuthSettings :=
  { failsafeCommercial := 300, failsafeAuthority := 1500, window := 300, upAbs := 4, upRel := 3, downAbs := 8,
    downRel := 8, knee := 70, cut := 95 }

/-- What a load sets the Presence Timer to under the window W (R74). -/
def presenceLoad (window : Nat) : Presence := if window = 0 then .disabled else .seconds window

/-- Authority Control after a main reset, over the kill setup and settings the backup domain holds (R65, R165 step 5). -/
def authorityAfterReset (kill : KillSetup) (settings : AuthSettings) : Authority :=
  { stack := [], presence := presenceLoad settings.window, mode := .failsafe, origin := .reset, eblank := none,
    latch := false, kill, settings }

/-- What the Resolver holds for a zone after a main reset (R2). -/
def resolverZoneAfterReset : ResolverZone :=
  { present := 0, target := 0, ceiling := 0, reason := .none, duty := 0, gain := 256, operator := .on,
    fromZero := false }

/-- The default zone record (R88). -/
def defaultRecord (z : Zone) : ZoneRecord :=
  { installed := false, cls := .commercial, polarity := .activeHigh, lmax := 5000, minOn := 0, phase := 256 * z.val }

/-- A channel after a main reset (R85). -/
def channelAfterReset (z : Zone) : Channel :=
  { record := defaultRecord z, activeDuty := 0, dutyBuffer := 0, swapPending := false, armed := false,
    activeMode := .float, bufferedMode := .float, compare := 0, acc := 0, polarity := .activeHigh,
    firstPeriod := false, phase := 256 * z.val, hold := false, supplyEnable := false }

/-- The Zone Drive Engine after a main reset (R85, R86, R98). -/
def driveAfterReset : Drive :=
  { zones := .ofFn channelAfterReset, sharedCount := 0, baseFrequency := .hz1200, countRate := .hz1200,
    edgeMode := .disabled, swapMode := .auto, syncLost := false, syncWatch := 0, fsync := none }

/-- What the Monitor holds for a zone after a main reset (R103). -/
def monitorZoneAfterReset : MonitorZone :=
  { openThreshold := 32, shortThreshold := 224, openReaction := .none, shortReaction := .off, stuckReaction := .off,
    overtempReaction := .none, latest := none, lockout := false, window := .idle }

/-- The Monitor after a main reset: the scan Tc is that of the Authority settings record (R103). -/
def monitorAfterReset (cut : Int) : Monitor :=
  { zones := .ofFn fun _ => monitorZoneAfterReset, limit := 6, scanCut := cut, scan := none }

/-- A Fault Table entry at 0, clear, 0 and none (R119, R120). -/
def emptyEntry : FaultEntry := { count := 0, asserted := false, raises := 0, lastRaised := none }

/-- The five Fault Table entries of a zone after a main reset or an uninstallation (R119, R120). -/
def emptyEntries : KindBank FaultEntry := ⟨emptyEntry, emptyEntry, emptyEntry, emptyEntry, emptyEntry⟩

/-- The device-condition record at the end of a main reset: FAILSAFE set, CLOCK_INVALID from the clock-valid flag,
BACKUP_LOST from the Supervisor's flag, the rest clear (R122). -/
def conditionsAfterReset (clockInvalid backupLost : Bool) : Conditions :=
  { sensorInvalid := ⟨false, false, false⟩, syncLost := false, kill := false, clockInvalid, failsafe := true,
    batteryLow := false, backupLost }

/-- The Fault Recorder at the end of a main reset, before the records of R130 (R119). -/
def recorderAfterReset (clockInvalid backupLost : Bool) : Recorder :=
  { table := .ofFn fun _ => emptyEntries, conditions := conditionsAfterReset clockInvalid backupLost, journal := [],
    unread := ⟨0, 0⟩, missed := ⟨0, 0⟩ }

/-- The Attention Logic after a main reset (R155). -/
def attentionAfterReset : Attention :=
  { mask := ⟨0x1FF, 0x1FF⟩, grade := ⟨false, false⟩, overrideExpired := false, grant := false, lastExpired := 0 }

end Sys2Proof.Machine
end

