-- ==== Sys2Proof/Machine/State.lean ====
section
/-! DEFINITION. The state of the LG-418: its blocks and the queue of commands that wait. -/

namespace Sys2Proof.Machine

/-- The state of the part. `resolver` holds one thing for each zone (R2). `pending` is the model's queue of commands, first
in first out (log 1). -/
structure State where
  ports : PortPair LinkPort
  store : TableStore
  clock : ClockUnit
  ambient : Ambient
  authority : Authority
  resolver : ZoneBank ResolverZone
  drive : Drive
  monitor : Monitor
  recorder : Recorder
  attention : Attention
  supply : Supply
  pending : List Instr
  deriving DecidableEq, Repr

/-- The reasons for which a step stops with a fault: none. Every command has an effect in every state, or changes nothing
where the spec says that its event does not arise (log 2). Safe: no behaviour of the part is cut off. -/
inductive Fault where
  deriving DecidableEq, Repr

/-- The reasons for which a command is refused. -/
inductive Refusal where
  /-- Raised by an arm of exec whose command has no meaning yet; no arm raises it. Safe. -/
  | notModelled (mnemonic : String)
  deriving DecidableEq, Repr

/-- The state with its ports replaced. -/
def State.withPorts (s : State) (x : PortPair LinkPort) : State := { s with ports := x }
/-- The state with its Table Store replaced. -/
def State.withStore (s : State) (x : TableStore) : State := { s with store := x }
/-- The state with its clock unit replaced. -/
def State.withClock (s : State) (x : ClockUnit) : State := { s with clock := x }
/-- The state with its Ambient Estimator replaced. -/
def State.withAmbient (s : State) (x : Ambient) : State := { s with ambient := x }
/-- The state with its Authority Control replaced. -/
def State.withAuthority (s : State) (x : Authority) : State := { s with authority := x }
/-- The state with its Resolver zones replaced. -/
def State.withResolver (s : State) (x : ZoneBank ResolverZone) : State := { s with resolver := x }
/-- The state with its Zone Drive Engine replaced. -/
def State.withDrive (s : State) (x : Drive) : State := { s with drive := x }
/-- The state with its Monitor replaced. -/
def State.withMonitor (s : State) (x : Monitor) : State := { s with monitor := x }
/-- The state with its Fault Recorder replaced. -/
def State.withRecorder (s : State) (x : Recorder) : State := { s with recorder := x }
/-- The state with its Attention Logic replaced. -/
def State.withAttention (s : State) (x : Attention) : State := { s with attention := x }
/-- The state with its Supply Supervisor replaced. -/
def State.withSupply (s : State) (x : Supply) : State := { s with supply := x }
/-- The state with its queue of commands replaced. -/
def State.withPending (s : State) (x : List Instr) : State := { s with pending := x }

/-- The part right after reset: the end of a main reset that is a total loss, with both straps 0 and nothing waiting
(R144, R163, R165 and "A start-up after a total loss" in 11; log 15). -/
def State.reset : State :=
  { ports := ⟨portAfterReset Config.baseA 0, portAfterReset Config.baseO 0⟩
    store := ⟨none, defaultGrants⟩
    clock := clockAfterLoss
    ambient := ambientAfterReset
    authority := authorityAfterReset defaultKill defaultSettings
    resolver := .ofFn fun _ => resolverZoneAfterReset
    drive := driveAfterReset
    monitor := monitorAfterReset defaultSettings.cut
    recorder :=
      { recorderAfterReset true true with
        journal := [⟨.uptime 0, ⟨.device, .backupLost, .event, 0⟩⟩], unread := ⟨1, 1⟩ }
    attention := attentionAfterReset
    supply :=
      { cause := .totalLoss, backupLost := true, battery := none, uptime := 0, inReset := false, supplyLow := false,
        pinLow := false, lastSource := .power, retentionLost := false }
    pending := [] }

end Sys2Proof.Machine
end

