-- ==== Sys2Proof/Machine/Operands.lean ====
section
/-! DEFINITION. How argument and response fields stand in bytes: field encodings (R150), codes (R150 and 09 "Status codes"),
record layouts (R152 to R154). Every field order and width of chapter 09 is here and nowhere else. -/

namespace Sys2Proof.Machine

/-! ### Numbers in bytes (R150): most significant byte first -/

/-- The low byte of a number. -/
def byteOf (n : Nat) : Byte := BitVec.ofNat 8 n

/-- A 1-byte field. -/
def be1 (n : Nat) : List Byte := [byteOf n]

/-- A 2-byte field. -/
def be2 (n : Nat) : List Byte := [byteOf (n / 256), byteOf n]

/-- A 3-byte field. -/
def be3 (n : Nat) : List Byte := [byteOf (n / 65536), byteOf (n / 256), byteOf n]

/-- A 4-byte field. -/
def be4 (n : Nat) : List Byte := [byteOf (n / 16777216), byteOf (n / 65536), byteOf (n / 256), byteOf n]

/-- A flag in a response: 0 or 1. -/
def flagByte (b : Bool) : List Byte := [if b then 1 else 0]

/-- A temperature: signed 2 bytes in two's complement. -/
def signed2 (t : Int) : List Byte := be2 (BitVec.ofInt 16 t).toNat

/-! ### Fields of a request's argument bytes, by the place of their first byte -/

/-- The 1-byte field at place `i`. -/
def Request.u1 (r : Request) (i : Nat) : Nat := (r.args.getD i 0).toNat

/-- The 2-byte field at place `i`. -/
def Request.u2 (r : Request) (i : Nat) : Nat := r.u1 i * 256 + r.u1 (i + 1)

/-- The 3-byte field at place `i`. -/
def Request.u3 (r : Request) (i : Nat) : Nat := r.u1 i * 65536 + r.u1 (i + 1) * 256 + r.u1 (i + 2)

/-- The signed 2-byte field at place `i`. -/
def Request.s2 (r : Request) (i : Nat) : Int := (BitVec.ofNat 16 (r.u2 i)).toInt

/-- The flag at place `i`: any value but 0 is yes. -/
def Request.flag (r : Request) (i : Nat) : Bool := r.u1 i != 0

/-- The zone mask at place `i`. -/
def Request.mask (r : Request) (i : Nat) : ZoneMask := BitVec.ofNat 16 (r.u2 i)

/-- The zone number at place `i`, none above 15. -/
def Request.zone (r : Request) (i : Nat) : Option Zone := if h : r.u1 i < 16 then some ⟨r.u1 i, h⟩ else none

/-- The epoch index at place `i`, none above 23. -/
def Request.entry (r : Request) (i : Nat) : Option (Fin 24) := if h : r.u1 i < 24 then some ⟨r.u1 i, h⟩ else none

/-- The zone is in the mask. -/
def inMask (m : ZoneMask) (z : Zone) : Bool := m.getLsbD z.val

/-! ### Codes of enumerated fields (R150) -/

/-- The value of a status byte (09 "Status codes"). -/
def Status.code : Status → Nat
  | .ok => 0x00
  | .pending => 0x01
  | .denied => 0x02
  | .range => 0x03
  | .length => 0x04
  | .unknown => 0x05
  | .full => 0x06
  | .notFound => 0x07
  | .badCurve => 0x08
  | .noClock => 0x09
  | .active => 0x0A
  | .none => 0x0B

/-- Override kinds. -/
def OverrideKind.code : OverrideKind → Nat
  | .cap => 1
  | .blank => 2
  | .force => 3

/-- The override kind of a code. -/
def OverrideKind.ofCode : Nat → Option OverrideKind
  | 1 => some .cap
  | 2 => some .blank
  | 3 => some .force
  | _ => none

/-- Zone classes. -/
def ZoneClass.code : ZoneClass → Nat
  | .commercial => 0
  | .authority => 1

/-- The zone class of a code. -/
def ZoneClass.ofCode : Nat → Option ZoneClass
  | 0 => some .commercial
  | 1 => some .authority
  | _ => none

/-- Zone polarities: ACTIVE_HIGH 0, ACTIVE_LOW 1. -/
def Polarity.zoneCode : Polarity → Nat
  | .activeHigh => 0
  | .activeLow => 1

/-- The zone polarity of a code. -/
def Polarity.ofZoneCode : Nat → Option Polarity
  | 0 => some .activeHigh
  | 1 => some .activeLow
  | _ => none

/-- Kill polarities: ACTIVE_LOW 0, ACTIVE_HIGH 1. -/
def Polarity.killCode : Polarity → Nat
  | .activeLow => 0
  | .activeHigh => 1

/-- The kill polarity of a code. -/
def Polarity.ofKillCode : Nat → Option Polarity
  | 0 => some .activeLow
  | 1 => some .activeHigh
  | _ => none

/-- Kill modes. -/
def KillMode.code : KillMode → Nat
  | .level => 0
  | .latch => 1

/-- The kill mode of a code. -/
def KillMode.ofCode : Nat → Option KillMode
  | 0 => some .level
  | 1 => some .latch
  | _ => none

/-- Grant holders: AUTHORITY (the A-port) 0, OPERATOR (the O-port) 1. -/
def holderCode : Port → Nat
  | .a => 0
  | .o => 1

/-- The holder of a code. -/
def holderOfCode : Nat → Option Port
  | 0 => some .a
  | 1 => some .o
  | _ => none

/-- Fault reactions. -/
def Reaction.code : Reaction → Nat
  | .none => 0
  | .dim => 1
  | .off => 2

/-- The reaction of a code among the choices of a kind (R103); THERM_FAULT has none. -/
def reactionOfCode : FaultKind → Nat → Option Reaction
  | .openString, 0 => some .none
  | .openString, 1 => some .dim
  | .shortString, 1 => some .dim
  | .shortString, 2 => some .off
  | .stuckOn, 0 => some .none
  | .stuckOn, 2 => some .off
  | .overtemp, 0 => some .none
  | .overtemp, 2 => some .off
  | _, _ => none

/-- The operator mode of a code: OFF 0, ON 1. -/
def OperatorMode.ofCode : Nat → Option OperatorMode
  | 0 => some .off
  | 1 => some .on
  | _ => none

/-- Base frequencies. -/
def BaseFrequency.code : BaseFrequency → Nat
  | .hz600 => 0
  | .hz1200 => 1
  | .hz2400 => 2
  | .hz4800 => 3

/-- The base frequency of a code. -/
def BaseFrequency.ofCode : Nat → Option BaseFrequency
  | 0 => some .hz600
  | 1 => some .hz1200
  | 2 => some .hz2400
  | 3 => some .hz4800
  | _ => none

/-- FSYNC edge modes. -/
def EdgeMode.code : EdgeMode → Nat
  | .disabled => 0
  | .rising => 1
  | .falling => 2
  | .both => 3

/-- The FSYNC edge mode of a code. -/
def EdgeMode.ofCode : Nat → Option EdgeMode
  | 0 => some .disabled
  | 1 => some .rising
  | 2 => some .falling
  | 3 => some .both
  | _ => none

/-- Swap modes. -/
def SwapMode.code : SwapMode → Nat
  | .auto => 0
  | .frame => 1

/-- The swap mode of a code. -/
def SwapMode.ofCode : Nat → Option SwapMode
  | 0 => some .auto
  | 1 => some .frame
  | _ => none

/-- Modes. -/
def Mode.code : Mode → Nat
  | .normal => 0
  | .failsafe => 1

/-- Ceiling reasons. -/
def CeilingReason.code : CeilingReason → Nat
  | .none => 0
  | .schedule => 1
  | .failsafe => 2
  | .cap => 3
  | .force => 4
  | .thermal => 5
  | .fault => 6
  | .physical => 7

/-- The effective mode of a zone output (R94): INACTIVE under the force hold, else the active output mode. -/
inductive EffectiveMode where
  | pwm
  | off
  | float
  | inactive
  deriving DecidableEq, Repr

/-- Effective modes. -/
def EffectiveMode.code : EffectiveMode → Nat
  | .pwm => 0
  | .off => 1
  | .float => 2
  | .inactive => 3

/-- Sensor reasons (also in the detail of R33). -/
def SensorReason.code : SensorReason → Nat
  | .none => 0
  | .disabled => 1
  | .saturated => 2
  | .stuck => 3
  | .noSample => 4

/-- Reset causes. -/
def ResetCause.code : ResetCause → Nat
  | .power => 1
  | .pin => 2
  | .request => 3
  | .totalLoss => 4

/-- Journal kinds. -/
def JournalKind.code : JournalKind → Nat
  | .zoneFault .openString => 1
  | .zoneFault .shortString => 2
  | .zoneFault .stuckOn => 3
  | .zoneFault .overtemp => 4
  | .zoneFault .thermFault => 5
  | .sensorInvalid => 6
  | .syncLost => 7
  | .kill => 8
  | .clockInvalid => 9
  | .failsafe => 10
  | .batteryLow => 11
  | .tableParity => 12
  | .backupLost => 13

/-- Journal transitions. -/
def Transition.code : Transition → Nat
  | .raised => 1
  | .cleared => 2
  | .event => 3

/-- Journal sources: the zone number, or 0xFF for DEVICE. -/
def Source.code : Source → Nat
  | .zone z => z.val
  | .device => 0xFF

/-! ### Record layouts in responses (R152, R153) -/

/-- A civil time, 6 bytes. -/
def CivilTime.bytes (t : CivilTime) : List Byte :=
  be1 (t.year - 2000) ++ be1 t.month ++ be1 t.day ++ be1 t.hour ++ be1 t.minute ++ be1 t.second

/-- A timestamp, 7 bytes (R153). -/
def Timestamp.bytes : Timestamp → List Byte
  | .civil t => be1 0 ++ t.bytes
  | .uptime n => be1 1 ++ be1 0 ++ be1 0 ++ be4 n

/-- A last-raised timestamp, 7 bytes (R153). -/
def stampBytes : Option Timestamp → List Byte
  | some t => t.bytes
  | none => be1 0xFF ++ [0, 0, 0, 0, 0, 0]

/-- A journal record, 12 bytes (R153). -/
def JournalRecord.bytes (r : JournalRecord) : List Byte :=
  r.stamp.bytes ++ be1 r.report.source.code ++ be1 r.report.kind.code ++ be1 r.report.transition.code ++
    be2 r.report.detail

/-- A curve, 45 bytes (R152). -/
def curveBytes (c : PointBank CurvePoint) : List Byte := c.toList.flatMap fun p => be3 p.b ++ be2 p.l

/-- A sensor setup, 10 bytes (R152). -/
def EstimatorSetup.bytes (e : EstimatorSetup) : List Byte :=
  flagByte e.sensors.e0.enable ++ be2 e.sensors.e0.scale ++ flagByte e.sensors.e1.enable ++ be2 e.sensors.e1.scale ++
    flagByte e.sensors.e2.enable ++ be2 e.sensors.e2.scale ++ be1 e.alpha

/-- An epoch entry, 13 bytes (R152). -/
def epochBytes (e : EpochFields) : List Byte :=
  be2 e.months.toNat ++ be1 e.weekdays.toNat ++ be2 e.start ++ be2 e.commercial ++ be2 e.authority ++ be3 e.fallback ++
    flagByte e.dark

/-- A zone record, 8 bytes (R152). -/
def ZoneRecord.bytes (r : ZoneRecord) : List Byte :=
  flagByte r.installed ++ be1 r.cls.code ++ be1 r.polarity.zoneCode ++ be2 r.lmax ++ be1 r.minOn ++ be2 r.phase

/-- The remaining seconds of an override as the wire carries them (R66). -/
def Lifetime.wire : Lifetime → Nat
  | .never => 0
  | .seconds n => n

/-- An override entry, 9 bytes (R152). -/
def Override.bytes (e : Override) : List Byte :=
  be1 e.id ++ be1 e.kind.code ++ be2 e.mask.toNat ++ be2 e.level ++ be1 e.priority ++ be2 e.remaining.wire

/-- A kill setup, 4 bytes (R152). -/
def KillSetup.bytes (k : KillSetup) : List Byte := be1 k.mode.code ++ be1 k.polarity.killCode ++ be2 k.mask.toNat

/-- An Authority settings record, 16 bytes (R152). -/
def AuthSettings.bytes (a : AuthSettings) : List Byte :=
  be2 a.failsafeCommercial ++ be2 a.failsafeAuthority ++ be2 a.window ++ be2 a.upAbs ++ be1 a.upRel ++ be2 a.downAbs ++
    be1 a.downRel ++ signed2 a.knee ++ signed2 a.cut

/-- A Grant Map, 5 bytes (R152). -/
def GrantMap.bytes (m : GrantMap) : List Byte :=
  be1 (holderCode m.curve) ++ be1 (holderCode m.zoneSetup) ++ be1 (holderCode m.faultSetup) ++
    be1 (holderCode m.clock) ++ be1 (holderCode m.driveTiming)

/-- A Fault Table entry in FAULT_READ, 10 bytes (R154). -/
def FaultEntry.bytes (e : FaultEntry) : List Byte :=
  be1 e.count ++ flagByte e.asserted ++ be1 e.raises ++ stampBytes e.lastRaised

/-- The device-condition record as a number (R154). -/
def Conditions.weights (c : Conditions) : Nat :=
  c.sensorInvalid.e0.toNat * 1 + c.sensorInvalid.e1.toNat * 2 + c.sensorInvalid.e2.toNat * 4 + c.syncLost.toNat * 8 +
    c.kill.toNat * 16 + c.clockInvalid.toNat * 32 + c.failsafe.toNat * 64 + c.batteryLow.toNat * 128 +
    c.backupLost.toNat * 256

/-! ### Records carried in arguments (R152), before any clamping or refusal -/

/-- The curve of a CURVE_WRITE. -/
def Request.curve (r : Request) : PointBank CurvePoint := .ofFn fun i => ⟨r.u3 (5 * i.val), r.u2 (5 * i.val + 3)⟩

/-- The sensor setup of a SENSOR_SETUP. -/
def Request.sensorSetup (r : Request) : EstimatorSetup :=
  { sensors := .ofFn fun i => ⟨r.flag (3 * i.val), r.u2 (3 * i.val + 1)⟩, alpha := r.u1 9 }

/-- The epoch entry of an EPOCH_WRITE, which follows the index byte; unused mask bits are ignored (R150). -/
def Request.epochFields (r : Request) : EpochFields :=
  { inUse := true, months := BitVec.ofNat 12 (r.u2 1), weekdays := BitVec.ofNat 7 (r.u1 3), start := r.u2 4,
    commercial := r.u2 6, authority := r.u2 8, fallback := r.u3 10, dark := r.flag 13 }

/-- The settings of an AUTH_SETUP. -/
def Request.settings (r : Request) : AuthSettings :=
  { failsafeCommercial := r.u2 0, failsafeAuthority := r.u2 2, window := r.u2 4, upAbs := r.u2 6, upRel := r.u1 8,
    downAbs := r.u2 9, downRel := r.u1 11, knee := r.s2 12, cut := r.s2 14 }

/-- The civil time of a CLOCK_SET. -/
def Request.civilTime (r : Request) : CivilTime :=
  { year := 2000 + r.u1 0, month := r.u1 1, day := r.u1 2, hour := r.u1 3, minute := r.u1 4, second := r.u1 5 }

/-! ### Reading a response (R147) -/

/-- Byte `i` of a read transaction that sends a response: status, length, data, then 0xFF. -/
def Response.byteAt (r : Response) : Nat → Byte
  | 0 => byteOf r.status.code
  | 1 => byteOf r.data.length
  | n + 2 => r.data.getD n 0xFF

/-- Byte `i` that the master of port `p` reads in its present read transaction; with no snapshot, and during a main reset,
the port leaves the data line released and the master reads 0xFF (R147, R149). -/
def State.readByte (s : State) (p : Port) (i : Nat) : Byte :=
  match (s.ports.get p).snapshot with
  | some r => if s.supply.inReset then 0xFF else r.byteAt i
  | none => 0xFF

end Sys2Proof.Machine
end

