-- ==== Sys2Proof/Machine/Flags.lean ====
section
/-! DEFINITION. Conditions, causes and lines: everything the spec forms afresh from the state at every moment. -/

namespace Sys2Proof.Machine

/-- The main domain runs: no main reset is under way (R160, R163; the main supply is down only inside a reset). -/
def State.running (s : State) : Bool := !s.supply.inReset

/-- The schedule is valid: the clock-valid flag is set and the active epoch record holds an entry (R63). -/
def State.scheduleValid (s : State) : Bool := s.clock.valid && s.clock.active.isSome

/-- The fallback lux as it stands: the active epoch's while the schedule is valid, else 400 (R4, R36). -/
def State.fallback (s : State) : Nat :=
  match s.clock.valid, s.clock.active with
  | true, some e => e.fallback
  | _, _ => Config.fallbackLux

/-- A level of EBLANK is active under the polarity (R77). -/
def activeUnder (p : Polarity) (high : Bool) : Bool :=
  match p with
  | .activeHigh => high
  | .activeLow => !high

/-- The sampled EBLANK level is active; until it is taken after a main reset it reads inactive (R77, R81). -/
def Authority.eblankActive (a : Authority) : Bool :=
  match a.eblank with
  | some high => activeUnder a.kill.polarity high
  | none => false

/-- The kill is in force (R78). -/
def Authority.killInForce (a : Authority) : Bool :=
  match a.kill.mode with
  | .level => a.eblankActive
  | .latch => a.latch

/-- The kill is in force for a zone (R78). -/
def Authority.killFor (a : Authority) (z : Zone) : Bool := a.killInForce && inMask a.kill.mask z

/-- The taken FSYNC level: low until it is first taken after a main reset (R85, R96). -/
def Drive.fsyncHigh (d : Drive) : Bool := d.fsync.getD false

/-- The effective mode of a zone output (R94). -/
def Channel.effective (c : Channel) : EffectiveMode :=
  if c.hold then .inactive
  else
    match c.activeMode with
    | .pwm => .pwm
    | .off => .off
    | .float => .float

/-- The level of a zone output: none is high impedance (R94). -/
def Channel.output (c : Channel) (localCount : Nat) : Option Bool :=
  let on : Bool := match c.polarity with
    | .activeHigh => true
    | .activeLow => false
  match c.effective with
  | .pwm => some (if localCount < c.compare then on else !on)
  | .off => some (!on)
  | .inactive => some (!on)
  | .float => none

/-- The local count of a zone: (S - phase) modulo 4096 (R86). -/
def Drive.localCount (d : Drive) (z : Zone) : Nat :=
  (d.sharedCount + (Config.periodCounts - (d.zones.get z).phase)) % Config.periodCounts

/-- The level of DRV z; during a main reset zone outputs float (R94, R165). -/
def State.zoneOutput (s : State) (z : Zone) : Option Bool :=
  if s.running then (s.drive.zones.get z).output (s.drive.localCount z) else none

/-- The nine attention causes (R156). -/
inductive Cause where
  | kill
  | failsafe
  | schedule
  | clock
  | journal
  | overrideExpired
  | grant
  | grade
  | battery
  deriving DecidableEq, Repr

/-- The code, and so the rank, of a cause (R156). -/
def Cause.code : Cause → Nat
  | .kill => 1
  | .failsafe => 2
  | .schedule => 3
  | .clock => 4
  | .journal => 5
  | .overrideExpired => 6
  | .grant => 7
  | .grade => 8
  | .battery => 9

/-- The causes by rank. -/
def allCauses : List Cause :=
  [.kill, .failsafe, .schedule, .clock, .journal, .overrideExpired, .grant, .grade, .battery]

/-- A cause is pending on a port (R156). OVERRIDE_EXPIRED does not arise on the O-port, nor GRANT on the A-port. -/
def State.pendingCause (s : State) (p : Port) : Cause → Bool
  | .kill => s.authority.killInForce
  | .failsafe => s.authority.mode == .failsafe
  | .schedule => !s.scheduleValid
  | .clock => !s.clock.valid
  | .journal => decide (0 < s.recorder.unread.get p)
  | .overrideExpired => p == .a && s.attention.overrideExpired
  | .grant => p == .o && s.attention.grant
  | .grade => s.attention.grade.get p
  | .battery => s.recorder.conditions.batteryLow

/-- A cause is enabled in a port's mask (R155, R159). -/
def State.enabledCause (s : State) (p : Port) (c : Cause) : Bool := (s.attention.mask.get p).getLsbD (c.code - 1)

/-- The highest pending enabled cause of a port, or 0 (R157). -/
def State.highestCause (s : State) (p : Port) : Nat :=
  match allCauses.find? fun c => s.pendingCause p c && s.enabledCause p c with
  | some c => c.code
  | none => 0

/-- The pending set of a port as a number, placed as the enable mask (R154, R158, R159). -/
def State.pendingWeights (s : State) (p : Port) : Nat :=
  allCauses.foldl (fun n c => n + (s.pendingCause p c).toNat * 2 ^ (c.code - 1)) 0

/-- The attention line of a port is active, that is, driven low; during a main reset it is released (R155, R157). -/
def State.attnActive (s : State) (p : Port) : Bool :=
  s.running && allCauses.any fun c => s.pendingCause p c && s.enabledCause p c

end Sys2Proof.Machine
end

