-- ==== Sys2Proof/Machine/Ops.lean ====
section
/-! DEFINITION. The operations that several commands share: the Recorder's append (R127), reports with conditions (R122),
the force hold (R99), the change of the kill (R78, R80), lockout (R113), qualification (R110), the Presence Timer and the
end of FAILSAFE (R74, R75), the expiry of overrides (R71), sync events (R96, R97), and the start of a main reset (R163, R165). -/

namespace Sys2Proof.Machine

/-! ### One zone at a time -/

/-- The state with the channel of a zone changed. -/
def State.modChannel (s : State) (z : Zone) (f : Channel → Channel) : State :=
  s.withDrive { s.drive with zones := s.drive.zones.set z (f (s.drive.zones.get z)) }

/-- The state with the Monitor's data of a zone changed. -/
def State.modMonitor (s : State) (z : Zone) (f : MonitorZone → MonitorZone) : State :=
  s.withMonitor { s.monitor with zones := s.monitor.zones.set z (f (s.monitor.zones.get z)) }

/-- The Fault Table entry of a zone and kind (R120). -/
def State.entry (s : State) (z : Zone) (k : FaultKind) : FaultEntry := (s.recorder.table.get z).get k

/-- The state with a Fault Table entry replaced. -/
def State.setEntry (s : State) (z : Zone) (k : FaultKind) (e : FaultEntry) : State :=
  s.withRecorder { s.recorder with table := s.recorder.table.set z ((s.recorder.table.get z).set k e) }

/-- The zone is installed (R88). -/
def State.installed (s : State) (z : Zone) : Bool := (s.drive.zones.get z).record.installed

/-- The zone is locked out (R113). -/
def State.lockedOut (s : State) (z : Zone) : Bool := (s.monitor.zones.get z).lockout

/-! ### The Fault Recorder -/

/-- The timestamp of the moment: civil while the clock-valid flag is set, else uptime (R124). -/
def State.now (s : State) : Timestamp :=
  if s.clock.valid then .civil s.clock.time else .uptime s.supply.uptime

/-- The Recorder appends one record (R127). -/
def Recorder.append (r : Recorder) (x : JournalRecord) : Recorder :=
  if r.journal.length < Config.journalMax then
    { r with journal := r.journal ++ [x], unread := r.unread.map (· + 1) }
  else
    { r with
      journal := r.journal.drop 1 ++ [x]
      unread := r.unread.map fun u => if u < Config.journalMax then u + 1 else u
      missed :=
        ⟨if r.unread.a < Config.journalMax then r.missed.a else min Config.byteStop (r.missed.a + 1),
          if r.unread.o < Config.journalMax then r.missed.o else min Config.byteStop (r.missed.o + 1)⟩ }

/-- The Recorder stamps a report and appends its record (R124, R127). -/
def State.report (s : State) (r : Report) : State := s.withRecorder (s.recorder.append ⟨s.now, r⟩)

/-- The state with its device-condition record changed (R122). -/
def State.modConditions (s : State) (f : Conditions → Conditions) : State :=
  s.withRecorder { s.recorder with conditions := f s.recorder.conditions }

/-- A report of source DEVICE. -/
def deviceReport (k : JournalKind) (t : Transition) (detail : Nat) : Report := ⟨.device, k, t, detail⟩

/-! ### The force hold and the kill -/

/-- The force hold of every installed zone of a set is set (R99). -/
def Drive.holdZones (d : Drive) (zones : Zone → Bool) : Drive :=
  { d with
    zones := d.zones.mapIdx fun z c => if c.record.installed && zones z then { c with hold := true } else c }

/-- The kill comes into force for a set of zones under a mask: the engine is told, KILL RAISED is appended with the mask as
detail, and KILL is set (R78). -/
def State.killBegins (s : State) (mask : ZoneMask) (zones : Zone → Bool) : State :=
  ((s.withDrive (s.drive.holdZones zones)).modConditions fun c => { c with kill := true }).report
    (deviceReport .kill .raised mask.toNat)

/-- The kill ends under a mask: KILL CLEARED is appended with that mask, and KILL is cleared (R78). -/
def State.killEnds (s : State) (mask : ZoneMask) : State :=
  (s.modConditions fun c => { c with kill := false }).report (deviceReport .kill .cleared mask.toNat)

/-- Authority Control changes to `a`, and the kill is formed afresh: the records and the drive follow from the kill before
and after (R78, table of R80). -/
def State.setAuthority (s : State) (a : Authority) : State :=
  let before := s.authority
  let t := s.withAuthority a
  match before.killInForce, a.killInForce with
  | false, false => t
  | false, true => t.killBegins a.kill.mask (inMask a.kill.mask)
  | true, false => t.killEnds before.kill.mask
  | true, true =>
    if a.kill.mask = before.kill.mask then t
    else
      (t.killEnds before.kill.mask).killBegins a.kill.mask fun z =>
        inMask a.kill.mask z && !inMask before.kill.mask z

/-! ### Lockout and qualification -/

/-- The zone becomes locked out: the flag, the window to IDLE, the force hold, the supply enable low (R113, R99, R101). -/
def State.lockOut (s : State) (z : Zone) : State :=
  (s.modMonitor z fun m => { m with lockout := true, window := .idle }).modChannel z fun c =>
    { c with hold := true, supplyEnable := false }

/-- The reaction of a kind; THERM_FAULT has no reaction field (R103). -/
def MonitorZone.reaction (m : MonitorZone) : FaultKind → Reaction
  | .openString => m.openReaction
  | .shortString => m.shortReaction
  | .stuckOn => m.stuckReaction
  | .overtemp => m.overtempReaction
  | .thermFault => .none

/-- The Recorder takes an assertion: raise count, last-raised timestamp, RAISED record (R110, R120). -/
def State.assertFault (s : State) (z : Zone) (k : FaultKind) (detail : Nat) : State :=
  let e := s.entry z k
  (s.setEntry z k
    { e with asserted := true, raises := min Config.byteStop (e.raises + 1), lastRaised := some s.now }).report
    ⟨.zone z, .zoneFault k, .raised, detail⟩

/-- The outcome of one sample for one kind (R106, R109). -/
inductive SampleOutcome where
  | bad
  | good
  | none
  deriving DecidableEq, Repr

/-- The state with the count of an entry changed. -/
def State.setCount (s : State) (z : Zone) (k : FaultKind) (n : Nat) : State :=
  s.setEntry z k { s.entry z k with count := n }

/-- One outcome moves the count of its pair; it may assert the kind, with a lockout where its reaction is OFF, or clear it
(R110, R113). An asserted kind keeps its flag while GOOD outcomes take its count from Q down to 1, as R110 and R118 give, although
R121 has a set flag read with a count of Q: the model follows R110 (log 31). -/
def State.qualify (s : State) (z : Zone) (k : FaultKind) (o : SampleOutcome) (detail : Nat) : State :=
  let e := s.entry z k
  match o with
  | .none => s
  | .bad =>
    if e.count + 1 < s.monitor.limit then s.setCount z k (e.count + 1)
    else
      let t := s.setCount z k s.monitor.limit
      if e.asserted then t
      else
        let u := t.assertFault z k detail
        if (u.monitor.zones.get z).reaction k = .off then u.lockOut z else u
  | .good =>
    if 1 < e.count then s.setCount z k (e.count - 1)
    else
      let t := s.setEntry z k { e with count := 0, asserted := false }
      if e.asserted then t.report ⟨.zone z, .zoneFault k, .cleared, detail⟩ else t

/-! ### The Presence Timer, FAILSAFE and the override countdown -/

/-- The Presence Timer is loaded under the window in force (R74). -/
def State.loadPresence (s : State) : State :=
  s.withAuthority { s.authority with presence := presenceLoad s.authority.settings.window }

/-- An A-port request is taken: FAILSAFE ends, with a CLEARED record where its origin is PRESENCE, and the timer is loaded
(R75). -/
def State.authorityHeard (s : State) : State :=
  let t := (s.withAuthority { s.authority with mode := .normal, origin := .reset }).loadPresence
  match s.authority.mode, s.authority.origin with
  | .normal, _ => t
  | .failsafe, .reset => t.modConditions fun c => { c with failsafe := false }
  | .failsafe, .presence =>
    (t.modConditions fun c => { c with failsafe := false }).report (deviceReport .failsafe .cleared 0)

/-- The Presence Timer stands at 0: in NORMAL the mode becomes FAILSAFE with origin PRESENCE and its RAISED record; in
FAILSAFE nothing changes (R75). -/
def State.presenceRunOut (s : State) : State :=
  match s.authority.mode, s.authority.presence with
  | .normal, .seconds 0 =>
    ((s.withAuthority { s.authority with mode := .failsafe, origin := .presence }).modConditions fun c =>
      { c with failsafe := true }).report (deviceReport .failsafe .raised 0)
  | _, _ => s

/-- An uptime second takes one from a timer that holds a number above 0 (R74). -/
def Presence.countDown : Presence → Presence
  | .seconds (n + 1) => .seconds n
  | p => p

/-- An uptime second takes one from the remaining seconds of an entry that expires (R71). -/
def Lifetime.countDown : Lifetime → Lifetime
  | .seconds (n + 1) => .seconds n
  | l => l

/-- The entry has come to its end (R71). -/
def Override.due (e : Override) : Bool := e.remaining == .seconds 0

/-- Every entry that has come to 0 by the countdown leaves the stack; the id of the newest of them is stored as the A-port's
last-expired id and OVERRIDE_EXPIRED is latched on the A-port (R71, R156). -/
def State.expireOverrides (s : State) : State :=
  match (s.authority.stack.filter Override.due).getLast? with
  | none => s
  | some e =>
    (s.withAuthority { s.authority with stack := s.authority.stack.filter fun x => !x.due }).withAttention
      { s.attention with overrideExpired := true, lastExpired := e.id }

/-! ### Sync events (R96, R97) -/

/-- A change of the taken FSYNC level to `high` is one that the edge mode names. -/
def EdgeMode.names (m : EdgeMode) (high : Bool) : Bool :=
  match m with
  | .disabled => false
  | .rising => high
  | .falling => !high
  | .both => true

/-- Swaps are armed and watched: FRAME with an edge mode other than DISABLED (R96, R97). -/
def Drive.watching (d : Drive) : Bool := d.swapMode == .frame && d.edgeMode != .disabled

/-- The swap decision is that of AUTO (R95). -/
def Drive.autoSwaps (d : Drive) : Bool := !d.watching || d.syncLost

/-- Every installed zone with swap-pending set is armed (R96). -/
def Drive.armPending (d : Drive) : Drive :=
  { d with
    zones := d.zones.mapIdx fun _ c => if c.record.installed && c.swapPending then { c with armed := true } else c }

/-- A sync-lost condition that holds ends with its CLEARED record (R97). -/
def State.endSyncLost (s : State) : State :=
  if s.drive.syncLost then
    ((s.withDrive { s.drive with syncLost := false }).modConditions fun c => { c with syncLost := false }).report
      (deviceReport .syncLost .cleared 0)
  else s

/-- The effects of a sync event; outside FRAME with an enabled edge mode it arms nothing and is not watched (R96, R97). -/
def State.syncEffects (s : State) : State :=
  if s.drive.watching then
    let t := s.endSyncLost
    t.withDrive { t.drive.armPending with syncWatch := 0 }
  else s

/-! ### The start of a main reset -/

/-- A port at the start of a main reset: its transaction abandoned, its request not served (R142, R149). -/
def LinkPort.abandon (p : LinkPort) : LinkPort :=
  { p with receive := .idle, slot := none, snapshot := none, lastAck := false }

/-- A source of a main reset begins: a reset starts, or the one under way is extended (R163). The service in progress ends
(R142), transactions are abandoned (R149), uptime is set to 0 (R161) and the supply enables go low (R101, R165). Zone outputs
float and the attention lines are released for as long as the reset lasts (`zoneOutput`, `attnActive`). -/
def State.beginReset (s : State) (source : ResetCause) : State :=
  (((s.withPorts (s.ports.map LinkPort.abandon)).withStore { s.store with serving := none }).withDrive
    { s.drive with zones := s.drive.zones.mapIdx fun _ c => { c with supplyEnable := false } }).withSupply
    { s.supply with inReset := true, lastSource := source, uptime := 0 }

end Sys2Proof.Machine
end

