-- ==== Sys2Proof/Machine/Ambient.lean ====
section
/-! DEFINITION. The Ambient Estimator (chapter 02): the stages of a gate completion. -/

namespace Sys2Proof.Machine

/-- The lux value of a sensor (R30). -/
def sensorLux (setup : SensorSetup) (count : Nat) : Nat :=
  if setup.enable then min Config.luxMax (count * setup.scale / 1024) else 0

/-- The stuck counter after a gate (R32). -/
def stuckAfter (setup : SensorSetup) (before : Sensor) (count : Nat) : Nat :=
  if !setup.enable then 0
  else if count = 0 ∨ count = Config.countStop then 0
  else if count = before.count ∧ 0 < before.stuck then min Config.stuckStop (before.stuck + 1)
  else 1

/-- The reason a sensor is given, NONE for VALID (R31). -/
def sensorReason (setup : SensorSetup) (count stuck : Nat) : SensorReason :=
  if !setup.enable then .disabled
  else if count = Config.countStop then .saturated
  else if stuck = Config.stuckStop then .stuck
  else .none

/-- The count of a gate: the counter stops at 262143 (R26). -/
def gateCount (before : Sensor) (edges : Nat) : Nat := min Config.countStop (before.pulses + edges)

/-- One sensor after a gate completion, under its working setup (R26, R30 to R32). -/
def sensorAfterGate (setup : SensorSetup) (before : Sensor) (edges : Nat) : Sensor :=
  let count := gateCount before edges
  let stuck := stuckAfter setup before count
  { pulses := 0, count, lux := sensorLux setup count, reason := sensorReason setup count stuck, stuck }

/-- The reasons whose beginning and end are reported (R33). -/
def SensorReason.reported : SensorReason → Bool
  | .saturated => true
  | .stuck => true
  | _ => false

/-- A SENSOR_INVALID report: the detail is the sensor's index times 16 plus the reason code (R33). -/
def sensorReport (i : Fin 3) (t : Transition) (r : SensorReason) : Report :=
  deviceReport .sensorInvalid t (i.val * 16 + r.code)

/-- The state with the SENSOR_INVALID condition of a sensor set or cleared (R33, R122). -/
def State.setSensorCondition (s : State) (i : Fin 3) (b : Bool) : State :=
  s.modConditions fun c => { c with sensorInvalid := c.sensorInvalid.set i b }

/-- The reports of one sensor, from its reason before a completion and after it: a CLEARED before a RAISED (R33). -/
def State.reportSensor (s : State) (i : Fin 3) (before after : SensorReason) : State :=
  if before = after then s
  else
    let t :=
      if before.reported then (s.setSensorCondition i false).report (sensorReport i .cleared before) else s
    if after.reported then (t.setSensorCondition i true).report (sensorReport i .raised after) else t

/-- The lux values of the valid sensors, in order (R34). -/
def validLux (b : SensorBank Sensor) : List Nat :=
  ([b.e0, b.e1, b.e2].filter fun x => x.reason == .none).map (·.lux)

/-- The middle of three values (R34). -/
def median (x y z : Nat) : Nat := max (min x y) (min (max x y) z)

/-- The fused value (R34). -/
def fuse (fallback : Nat) : List Nat → Nat
  | [] => fallback
  | [x] => x
  | [x, y] => (x + y) / 2
  | x :: y :: z :: _ => median x y z

/-- The grade (R35). -/
def gradeOf (f : Nat) : List Nat → Nat
  | [] => 0
  | [_] => 1
  | xs => if xs.foldl max 0 - xs.foldl min Config.luxMax ≤ f / 4 + 16 then 2 else 1

/-- The filter's step of E_f toward F (R38). -/
def filterStep (alpha e f : Nat) : Nat :=
  let d : Int := (f : Int) - e
  let q0 : Int := d * alpha / 16
  let q : Int := if 0 < d ∧ q0 = 0 then 1 else q0
  (clampInt 0 Config.luxMax (e + q)).toNat

/-- F is a spike (R37). -/
def isSpike (e f : Nat) : Bool := decide (4 * e + 64 < f)

/-- E_f and the spike counter after screen and filter (R37 to R39). -/
def screenAndFilter (alpha grade f : Nat) (filtered : Option Nat) (spike : Nat) : Nat × Nat :=
  match filtered with
  | none => (f, 0)
  | some e =>
    if grade ≠ 0 ∧ isSpike e f ∧ spike < 2 then (e, spike + 1) else (filterStep alpha e f, 0)

/-- The estimator's own state after a gate completion, with the fallback lux as it stands (R29). -/
def Ambient.afterGate (m : Ambient) (fallback : Nat) (edges : Fin 3 → Nat) : Ambient :=
  let working := if m.setupPending then m.staged else m.working
  let sensors := m.sensors.mapIdx fun i x => sensorAfterGate (working.sensors.get i) x (edges i)
  let valid := validLux sensors
  let f := fuse fallback valid
  let grade := gradeOf f valid
  let out := screenAndFilter working.alpha grade f m.filtered m.spike
  { m with
    working, setupPending := false, sensors, fused := f, filtered := some out.1, spike := out.2, grade }

/-- A grade drop is signalled, which latches GRADE on both ports (R35, R156). -/
def State.latchGrade (s : State) : State := s.withAttention { s.attention with grade := ⟨true, true⟩ }

/-- GATE_COMPLETION: the stages of R29, the reports of S0, S1 and S2 (R33), and the grade drop (R35). The gate timer stands
still in a main reset. -/
def execGateCompletion (edges0 edges1 edges2 : Nat) (s : State) : Host.Outcome State Fault Refusal :=
  .next <|
    if s.running then
      let before := s.ambient
      let after := before.afterGate s.fallback (SensorBank.get ⟨edges0, edges1, edges2⟩)
      let t0 := s.withAmbient after
      let t1 := t0.reportSensor 0 before.sensors.e0.reason after.sensors.e0.reason
      let t2 := t1.reportSensor 1 before.sensors.e1.reason after.sensors.e1.reason
      let t3 := t2.reportSensor 2 before.sensors.e2.reason after.sensors.e2.reason
      if after.grade < before.grade then t3.latchGrade else t3
    else s

end Sys2Proof.Machine
end

