-- ==== Sys2Proof/Machine/Requests.lean ====
section
/-! DEFINITION. The Table Store's service (R132 to R134, R148) and the request catalogue (R136, R151). -/

namespace Sys2Proof.Machine

/-- Who may write with a request (R134, R136). -/
inductive Access where
  | either
  | owner (p : Port)
  | group (g : Group)
  deriving DecidableEq, Repr

/-- A row of the request catalogue: code, write access, exact count of argument bytes (R151). -/
structure CatalogueRow where
  code : Byte
  access : Access
  argBytes : Nat
  deriving DecidableEq, Repr

/-- Row of STATUS (R151). -/
def rowStatus : CatalogueRow := ⟨0x01, .either, 0⟩
/-- Row of CLOCK_READ (R151). -/
def rowClockRead : CatalogueRow := ⟨0x02, .either, 0⟩
/-- Row of CLOCK_SET (R151). -/
def rowClockSet : CatalogueRow := ⟨0x03, .group .clock, 6⟩
/-- Row of EPOCH_READ (R151). -/
def rowEpochRead : CatalogueRow := ⟨0x04, .either, 1⟩
/-- Row of EPOCH_WRITE (R151). -/
def rowEpochWrite : CatalogueRow := ⟨0x05, .owner .a, 14⟩
/-- Row of EPOCH_ERASE (R151). -/
def rowEpochErase : CatalogueRow := ⟨0x06, .owner .a, 1⟩
/-- Row of CURVE_READ (R151). -/
def rowCurveRead : CatalogueRow := ⟨0x07, .either, 0⟩
/-- Row of CURVE_WRITE (R151). -/
def rowCurveWrite : CatalogueRow := ⟨0x08, .group .curve, 45⟩
/-- Row of SENSOR_READ (R151). -/
def rowSensorRead : CatalogueRow := ⟨0x09, .either, 0⟩
/-- Row of SENSOR_SETUP (R151). -/
def rowSensorSetup : CatalogueRow := ⟨0x0A, .group .curve, 10⟩
/-- Row of ZONE_READ (R151). -/
def rowZoneRead : CatalogueRow := ⟨0x0B, .either, 1⟩
/-- Row of ZONE_SETUP (R151). -/
def rowZoneSetup : CatalogueRow := ⟨0x0C, .group .zoneSetup, 9⟩
/-- Row of GAIN_READ (R151). -/
def rowGainRead : CatalogueRow := ⟨0x0D, .either, 0⟩
/-- Row of GAIN_WRITE (R151). -/
def rowGainWrite : CatalogueRow := ⟨0x0E, .owner .o, 4⟩
/-- Row of ZONE_MODE (R151). -/
def rowZoneMode : CatalogueRow := ⟨0x0F, .owner .o, 3⟩
/-- Row of LEVEL_READ (R151). -/
def rowLevelRead : CatalogueRow := ⟨0x10, .either, 1⟩
/-- Row of OVR_PUSH (R151). -/
def rowOvrPush : CatalogueRow := ⟨0x11, .owner .a, 9⟩
/-- Row of OVR_REMOVE (R151). -/
def rowOvrRemove : CatalogueRow := ⟨0x12, .owner .a, 1⟩
/-- Row of OVR_CLEAR (R151). -/
def rowOvrClear : CatalogueRow := ⟨0x13, .owner .a, 0⟩
/-- Row of OVR_LIST (R151). -/
def rowOvrList : CatalogueRow := ⟨0x14, .either, 0⟩
/-- Row of KILL_SETUP (R151). -/
def rowKillSetup : CatalogueRow := ⟨0x15, .owner .a, 4⟩
/-- Row of KILL_RELEASE (R151). -/
def rowKillRelease : CatalogueRow := ⟨0x16, .owner .a, 0⟩
/-- Row of AUTH_SETUP (R151). -/
def rowAuthSetup : CatalogueRow := ⟨0x17, .owner .a, 16⟩
/-- Row of AUTH_READ (R151). -/
def rowAuthRead : CatalogueRow := ⟨0x18, .either, 0⟩
/-- Row of GRANT_SET (R151). -/
def rowGrantSet : CatalogueRow := ⟨0x19, .owner .a, 5⟩
/-- Row of GRANT_READ (R151). -/
def rowGrantRead : CatalogueRow := ⟨0x1A, .either, 0⟩
/-- Row of FAULT_SETUP (R151). -/
def rowFaultSetup : CatalogueRow := ⟨0x1B, .group .faultSetup, 9⟩
/-- Row of FAULT_READ (R151). -/
def rowFaultRead : CatalogueRow := ⟨0x1C, .either, 1⟩
/-- Row of ZONE_REARM (R151). -/
def rowZoneRearm : CatalogueRow := ⟨0x1D, .group .faultSetup, 1⟩
/-- Row of JOURNAL_READ (R151). -/
def rowJournalRead : CatalogueRow := ⟨0x1E, .either, 0⟩
/-- Row of ATTN_READ (R151). -/
def rowAttnRead : CatalogueRow := ⟨0x1F, .either, 0⟩
/-- Row of ATTN_MASK (R151). -/
def rowAttnMask : CatalogueRow := ⟨0x20, .either, 2⟩
/-- Row of DRIVE_SETUP (R151). -/
def rowDriveSetup : CatalogueRow := ⟨0x21, .group .driveTiming, 3⟩
/-- Row of DEVICE_RESET (R151). -/
def rowDeviceReset : CatalogueRow := ⟨0x22, .owner .a, 0⟩

/-- The request catalogue (R151). -/
def catalogue : List CatalogueRow :=
  [rowStatus, rowClockRead, rowClockSet, rowEpochRead, rowEpochWrite, rowEpochErase, rowCurveRead, rowCurveWrite,
    rowSensorRead, rowSensorSetup, rowZoneRead, rowZoneSetup, rowGainRead, rowGainWrite, rowZoneMode, rowLevelRead,
    rowOvrPush] ++
  [rowOvrRemove, rowOvrClear, rowOvrList, rowKillSetup, rowKillRelease, rowAuthSetup, rowAuthRead, rowGrantSet,
    rowGrantRead, rowFaultSetup, rowFaultRead, rowZoneRearm, rowJournalRead, rowAttnRead, rowAttnMask, rowDriveSetup,
    rowDeviceReset]

/-- The code is in the catalogue (R148 step 1, R151). -/
def inCatalogue (c : Byte) : Bool := catalogue.any fun r => r.code == c

/-- The port may make the request, by the Grant Map as it stands (R134). -/
def permitted (g : GrantMap) (p : Port) : Access → Bool
  | .either => true
  | .owner q => p == q
  | .group k => p == g.holder k

/-- The request in service: the Table Store is SERVING the port, whose slot holds the request (R132). Services need the main
domain (R142, R160). -/
def State.inService (s : State) (p : Port) : Option Request :=
  if s.running && s.store.serving == some p then (s.ports.get p).slot else none

/-- The request in service on the port when its code is that of the row. -/
def State.serviceOf (s : State) (p : Port) (row : CatalogueRow) : Option Request :=
  match s.inService p with
  | some r => if r.code = row.code then some r else none
  | none => none

/-- The port whose waiting request is selected: the A-port first (R132). -/
def selectNext (ports : PortPair LinkPort) : Option Port :=
  if ports.a.slot.isSome then some .a else if ports.o.slot.isSome then some .o else none

/-- The completion of a service: the response is written, the slot emptied, and the next request selected (R132, R133). -/
def State.complete (s : State) (p : Port) (resp : Response) : State :=
  let ports := s.ports.set p { s.ports.get p with slot := none, response := resp }
  (s.withPorts ports).withStore { s.store with serving := selectNext ports }

/-- A response without data. -/
def bare (st : Status) : Response := ⟨st, []⟩

/-- The checks of R148 before a request's own, in order, and then the request's own rule: LENGTH, DENIED, and `body`, which
gives the state changed by the request and its response. UNKNOWN cannot arise, the code being the row's. -/
def State.answer (s : State) (p : Port) (row : CatalogueRow) (r : Request)
    (body : Request → State → State × Response) : State × Response :=
  if r.count ≠ row.argBytes then (s, bare .length)
  else if !permitted s.store.grants p row.access then (s, bare .denied)
  else body r s

/-- The serving of a request (R132, R148): with no such request in service on the port the event does not arise (log 10). -/
def State.serve (s : State) (p : Port) (row : CatalogueRow) (body : Request → State → State × Response) : State :=
  match s.serviceOf p row with
  | none => s
  | some r =>
    let out := s.answer p row r body
    out.1.complete p out.2

/-- The serving of a request that only reads: `resp` is formed from the state as it stands (R140). -/
def State.serveRead (s : State) (p : Port) (row : CatalogueRow) (resp : Request → State → Response) : State :=
  s.serve p row fun r t => (t, resp r t)

/-- An OK response with data. -/
def okData (d : List Byte) : Response := ⟨.ok, d⟩

end Sys2Proof.Machine
end

