-- ==== Sys2Proof/Machine/AmbientRequests.lean ====
section
/-! DEFINITION. The requests of the Ambient Estimator (chapter 02). -/

namespace Sys2Proof.Machine

/-- CURVE_READ (R41). -/
def execCurveRead (p : Port) (s : State) : Host.Outcome State Fault Refusal :=
  .next <| s.serveRead p rowCurveRead fun _ t => okData (curveBytes t.ambient.curve)

/-- Every breakpoint and level of a curve is within its range (R42 step 1). -/
def curveInRange (c : PointBank CurvePoint) : Bool :=
  c.toList.all fun p => decide (p.b ≤ Config.luxMax) && decide (p.l ≤ Config.levelMax)

/-- Breakpoints strictly increasing and levels non-decreasing (R42 step 2). -/
def pointsOrdered : List CurvePoint → Bool
  | p :: q :: rest => decide (p.b < q.b) && decide (p.l ≤ q.l) && pointsOrdered (q :: rest)
  | _ => true

/-- CURVE_WRITE (R42). -/
def execCurveWrite (p : Port) (s : State) : Host.Outcome State Fault Refusal :=
  .next <| s.serve p rowCurveWrite fun r t =>
    if !curveInRange r.curve then (t, bare .range)
    else if !pointsOrdered r.curve.toList then (t, bare .badCurve)
    else (t.withAmbient { t.ambient with curve := r.curve }, bare .ok)

/-- The bytes of one sensor in SENSOR_READ (R154). -/
def Sensor.bytes (x : Sensor) : List Byte :=
  be3 x.count ++ be3 x.lux ++ flagByte (x.reason == .none) ++ be1 x.reason.code ++ be2 x.stuck

/-- SENSOR_READ (R44). -/
def execSensorRead (p : Port) (s : State) : Host.Outcome State Fault Refusal :=
  .next <| s.serveRead p rowSensorRead fun _ t =>
    let m := t.ambient
    okData <| m.staged.bytes ++ flagByte m.setupPending ++ m.sensors.e0.bytes ++ m.sensors.e1.bytes ++
      m.sensors.e2.bytes ++ be3 m.fused ++ be3 (m.filtered.getD 0) ++ flagByte m.filtered.isSome ++ be1 m.spike ++
      be1 m.grade

/-- SENSOR_SETUP (R28). -/
def execSensorSetup (p : Port) (s : State) : Host.Outcome State Fault Refusal :=
  .next <| s.serve p rowSensorSetup fun r t =>
    let e := r.sensorSetup
    if e.sensors.e0.scale = 0 ∨ e.sensors.e1.scale = 0 ∨ e.sensors.e2.scale = 0 then (t, bare .range)
    else
      (t.withAmbient { t.ambient with staged := { e with alpha := clamp 1 16 e.alpha }, setupPending := true },
        bare .ok)

end Sys2Proof.Machine
end

