-- ==== Sys2Proof/Machine/Authority.lean ====
section
/-! DEFINITION. Authority Control's and the Supply Supervisor's events of the uptime second, and the EBLANK events
(R71, R74, R75, R77, R78, R81, R161, R162). -/

namespace Sys2Proof.Machine

/-- The battery class of a voltage in millivolts (R162). -/
def batteryClass (mv : Nat) : Nat :=
  if mv < 2000 then 0
  else if mv < 2200 then 1
  else if mv < 2400 then 2
  else if mv < 2600 then 3
  else if mv < 2800 then 4
  else if mv < 3000 then 5
  else if mv ≤ 3200 then 6
  else 7

/-- A battery measurement (R162). -/
def State.measureBattery (s : State) (mv : Nat) : State :=
  let cls := batteryClass mv
  let t := s.withSupply { s.supply with battery := some cls }
  let low := decide (cls ≤ 1)
  if low = s.recorder.conditions.batteryLow then t
  else
    (t.modConditions fun c => { c with batteryLow := low }).report
      (deviceReport .batteryLow (if low then .raised else .cleared) cls)

/-- The battery is measured at uptime seconds whose count leaves remainder 1 on division by 60 (R162). -/
def State.batteryAtSecond (s : State) (mv : Nat) : State :=
  if s.supply.uptime % 60 = 1 then s.measureBattery mv else s

/-- What Authority Control does at an uptime second: the override countdown with its expiries, and the Presence Timer with its
run-out (R71, R74, R75). -/
def State.authoritySecond (s : State) : State :=
  let counted := s.withAuthority
    { s.authority with
      stack := s.authority.stack.map fun e => { e with remaining := e.remaining.countDown }
      presence := s.authority.presence.countDown }
  let t := counted.expireOverrides
  if s.authority.presence = .seconds 1 then t.presenceRunOut else t

/-- UPTIME_SECOND (R161): the counter advances, and the second is handed, as one event, to Authority Control and to the battery
measurement. Where both report, `batteryFirst` says which report the Recorder takes first (R125 leaves it open; log 8).
The counter does not count in a main reset. -/
def execUptimeSecond (batteryMv : Nat) (batteryFirst : Bool) (s : State) : Host.Outcome State Fault Refusal :=
  .next <|
    if s.running then
      let t := s.withSupply { s.supply with uptime := (s.supply.uptime + 1) % Config.uptimeWrap }
      if batteryFirst then (t.batteryAtSecond batteryMv).authoritySecond
      else t.authoritySecond.batteryAtSecond batteryMv
    else s

/-- OVERRIDE_EXPIRED (R71): every entry that has come to 0 leaves the stack, with the stored id and the latched cause. An uptime
second takes this within itself (R70, R161), so between commands no entry waits for it (log 7). -/
def execOverrideExpired (s : State) : Host.Outcome State Fault Refusal :=
  .next (if s.running then s.expireOverrides else s)

/-- PRESENCE_TIMEOUT (R75): the timer stands at 0 while the mode is NORMAL. An uptime second takes this within itself (R76, R161),
so between commands no run-out waits for it (log 7). -/
def execPresenceTimeout (s : State) : Host.Outcome State Fault Refusal :=
  .next (if s.running then s.presenceRunOut else s)

/-! ### EBLANK (R77, R78, R81) -/

/-- A new level of EBLANK is taken; where it makes the input active from inactive in LATCH mode, the latch is set (R77, R78). -/
def State.takeEblank (s : State) (high : Bool) : State :=
  let a := { s.authority with eblank := some high }
  let rises := !s.authority.eblankActive && a.eblankActive
  s.setAuthority { a with latch := s.authority.latch || (rises && decide (s.authority.kill.mode = .latch)) }

/-- EBLANK_ACTIVE_EDGE (R77, R78): it arises while the sampled level has been taken and is inactive. -/
def execEblankActiveEdge (s : State) : Host.Outcome State Fault Refusal :=
  .next <|
    match s.authority.eblank with
    | some high => if s.running && !s.authority.eblankActive then s.takeEblank (!high) else s
    | none => s

/-- EBLANK_INACTIVE_EDGE (R77, R78): it arises while the sampled level is active. -/
def execEblankInactiveEdge (s : State) : Host.Outcome State Fault Refusal :=
  .next <|
    match s.authority.eblank with
    | some high => if s.running && s.authority.eblankActive then s.takeEblank (!high) else s
    | none => s

/-- KILL_START_UP_TAKE (R81): the first level of EBLANK taken after a main reset; an active one acts as at an active edge. -/
def execKillStartUpTake (high : Bool) (s : State) : Host.Outcome State Fault Refusal :=
  .next <|
    match s.authority.eblank with
    | some _ => s
    | none => if s.running then s.takeEblank high else s

end Sys2Proof.Machine
end

