-- ==== Sys2Proof/Machine/AuthorityRequests.lean ====
section
/-! DEFINITION. The requests of Authority Control, the Grant Map and STATUS (chapters 04, 08 and 09). -/

namespace Sys2Proof.Machine

/-! ### STATUS (R154) -/

/-- The Presence Timer as STATUS sends it (R154). -/
def Presence.wire : Presence → Nat
  | .disabled => 0xFFFF
  | .seconds n => n

/-- Kill in force, kill latch, sampled EBLANK active (R84, R154). -/
def Authority.killBytes (a : Authority) : List Byte :=
  flagByte a.killInForce ++ flagByte a.latch ++ flagByte a.eblankActive

/-- STATUS (R154). -/
def execStatus (p : Port) (s : State) : Host.Outcome State Fault Refusal :=
  .next <| s.serveRead p rowStatus fun _ t =>
    okData <| be1 t.authority.mode.code ++ flagByte t.scheduleValid ++
      be1 (match t.clock.active with
        | some e => e.index.val
        | none => 0xFF) ++
      be3 (t.ambient.filtered.getD 0) ++ flagByte t.ambient.filtered.isSome ++ be1 t.ambient.grade ++
      t.authority.killBytes ++ be2 t.authority.presence.wire ++ flagByte t.clock.valid ++
      be1 (t.supply.battery.getD 0xFF) ++ be1 t.supply.cause.code ++ flagByte t.supply.backupLost ++
      be4 t.supply.uptime

/-! ### The Override Stack (R67 to R70) -/

/-- The candidate for eviction: of the entries of the lowest priority, the oldest (R68). -/
def evictionCandidate (stack : List Override) : Option Override :=
  stack.foldl
    (fun best e =>
      match best with
      | none => some e
      | some b => if e.priority < b.priority then some e else best)
    none

/-- The stack without the entry of an id (R67, R69). -/
def withoutId (stack : List Override) (id : Nat) : List Override := stack.filter fun e => e.id != id

/-- What a push does: the new stack, or none for FULL; whether it replaced; the evicted id or 0 (R67, R68). -/
def pushOverride (stack : List Override) (e : Override) : Option (List Override × Bool × Nat) :=
  if stack.any fun x => x.id == e.id then some (withoutId stack e.id ++ [e], true, 0)
  else if stack.length < Config.stackMax then some (stack ++ [e], false, 0)
  else
    match evictionCandidate stack with
    | none => none
    | some c => if c.priority < e.priority then some (withoutId stack c.id ++ [e], false, c.id) else none

/-- The state with its Override Stack replaced. -/
def State.withStack (s : State) (l : List Override) : State := s.withAuthority { s.authority with stack := l }

/-- The remaining seconds of a pushed entry: 0 means that it does not expire (R66). -/
def Lifetime.ofWire (n : Nat) : Lifetime := if n = 0 then .never else .seconds n

/-- The response data of OVR_PUSH: replaced marker, evicted id, entries now held (R67, R154). -/
def pushData (replaced : Bool) (evicted held : Nat) : List Byte := flagByte replaced ++ be1 evicted ++ be1 held

/-- OVR_PUSH (R67, R68). Its data stands with OK, FULL and RANGE (R148). -/
def execOvrPush (p : Port) (s : State) : Host.Outcome State Fault Refusal :=
  .next <| s.serve p rowOvrPush fun r t =>
    let stack := t.authority.stack
    match OverrideKind.ofCode (r.u1 1) with
    | none => (t, ⟨.range, pushData false 0 stack.length⟩)
    | some kind =>
      if r.u1 0 = 0 ∨ r.mask 2 = 0 ∨ 3 < r.u1 6 then (t, ⟨.range, pushData false 0 stack.length⟩)
      else
        let e : Override :=
          { id := r.u1 0, kind, mask := r.mask 2, level := clamp 0 Config.levelMax (r.u2 4), priority := r.u1 6
            remaining := Lifetime.ofWire (r.u2 7) }
        match pushOverride stack e with
        | none => (t, ⟨.full, pushData false 0 stack.length⟩)
        | some (l, replaced, evicted) => (t.withStack l, ⟨.ok, pushData replaced evicted l.length⟩)

/-- OVR_REMOVE (R69). Its data stands with OK, NOTFOUND and RANGE (R148). -/
def execOvrRemove (p : Port) (s : State) : Host.Outcome State Fault Refusal :=
  .next <| s.serve p rowOvrRemove fun r t =>
    let stack := t.authority.stack
    let id := r.u1 0
    if id = 0 then (t, ⟨.range, be1 stack.length⟩)
    else if stack.any fun e => e.id == id then
      (t.withStack (withoutId stack id), ⟨.ok, be1 (withoutId stack id).length⟩)
    else (t, ⟨.notFound, be1 stack.length⟩)

/-- OVR_CLEAR (R69). -/
def execOvrClear (p : Port) (s : State) : Host.Outcome State Fault Refusal :=
  .next <| s.serve p rowOvrClear fun _ t => (t.withStack [], ⟨.ok, be1 0⟩)

/-- OVR_LIST (R70). -/
def execOvrList (p : Port) (s : State) : Host.Outcome State Fault Refusal :=
  .next <| s.serveRead p rowOvrList fun _ t =>
    okData (be1 t.authority.stack.length ++ t.authority.stack.flatMap Override.bytes)

/-! ### The kill (R79, R80) -/

/-- Authority Control under a new kill setup: EBLANK read afresh under the new polarity, the latch cleared by a change of mode,
and set in LATCH mode where the change latches (R80 steps 2.1 to 2.3). -/
def Authority.withKill (a : Authority) (k : KillSetup) : Authority :=
  let b := { a with kill := k }
  let modeChanged := decide (k.mode ≠ a.kill.mode)
  let turned := decide (k.polarity ≠ a.kill.polarity) && !a.eblankActive && b.eblankActive
  let cleared := if modeChanged then false else a.latch
  { b with
    latch :=
      cleared || (decide (k.mode = .latch) && ((modeChanged && b.eblankActive) || turned)) }

/-- KILL_SETUP (R80). -/
def execKillSetup (p : Port) (s : State) : Host.Outcome State Fault Refusal :=
  .next <| s.serve p rowKillSetup fun r t =>
    match KillMode.ofCode (r.u1 0), Polarity.ofKillCode (r.u1 1) with
    | some mode, some polarity =>
      if r.mask 2 = 0 then (t, bare .range)
      else (t.setAuthority (t.authority.withKill ⟨mode, polarity, r.mask 2⟩), bare .ok)
    | _, _ => (t, bare .range)

/-- KILL_RELEASE (R79). -/
def execKillRelease (p : Port) (s : State) : Host.Outcome State Fault Refusal :=
  .next <| s.serve p rowKillRelease fun _ t =>
    if !t.authority.latch then (t, bare .ok)
    else if t.authority.eblankActive then (t, bare .active)
    else (t.setAuthority { t.authority with latch := false }, bare .ok)

/-! ### The Authority settings record (R82 to R84) -/

/-- The presence window clamped: 0 is kept, 1 to 9 become 10, values above 3600 become 3600 (R83). -/
def clampWindow (w : Nat) : Nat := if w = 0 then 0 else clamp 10 3600 w

/-- A settings record with each field clamped to its range (R83 step 1). -/
def AuthSettings.clamped (a : AuthSettings) : AuthSettings :=
  { failsafeCommercial := clamp 0 Config.levelMax a.failsafeCommercial
    failsafeAuthority := clamp 0 Config.levelMax a.failsafeAuthority
    window := clampWindow a.window, upAbs := clamp 1 1000 a.upAbs, upRel := clamp 0 255 a.upRel
    downAbs := clamp 1 1000 a.downAbs, downRel := clamp 0 255 a.downRel, knee := clampInt (-40) 150 a.knee
    cut := clampInt (-35) 149 a.cut }

/-- AUTH_SETUP (R83, R76). -/
def execAuthSetup (p : Port) (s : State) : Host.Outcome State Fault Refusal :=
  .next <| s.serve p rowAuthSetup fun r t =>
    let a := r.settings.clamped
    if a.cut ≤ a.knee then (t, bare .range)
    else ((t.withAuthority { t.authority with settings := a }).loadPresence, bare .ok)

/-- AUTH_READ (R84). -/
def execAuthRead (p : Port) (s : State) : Host.Outcome State Fault Refusal :=
  .next <| s.serveRead p rowAuthRead fun _ t =>
    okData (t.authority.settings.bytes ++ t.authority.kill.bytes ++ t.authority.killBytes)

/-! ### The Grant Map (R137, R139) -/

/-- The staged sensor setup is withdrawn: set back equal to the working setup (R137 step 4). -/
def Ambient.withdrawn (m : Ambient) : Ambient := { m with staged := m.working, setupPending := false }

/-- What a GRANT_SET does, and whether it withdraws a staged sensor setup (R137 steps 2 to 4). -/
def State.setGrants (s : State) (g : GrantMap) : State × Bool :=
  let withdraws := decide (g.curve ≠ s.store.grants.curve) && s.ambient.setupPending
  let t := s.withStore { s.store with grants := g }
  let u := if g = s.store.grants then t else t.withAttention { t.attention with grant := true }
  (if withdraws then u.withAmbient u.ambient.withdrawn else u, withdraws)

/-- The Grant Map a GRANT_SET carries, none when a holder code is outside the list (R137 step 1). -/
def Request.grants (r : Request) : Option GrantMap :=
  match holderOfCode (r.u1 0), holderOfCode (r.u1 1), holderOfCode (r.u1 2), holderOfCode (r.u1 3),
    holderOfCode (r.u1 4) with
  | some h0, some h1, some h2, some h3, some h4 => some ⟨h0, h1, h2, h3, h4⟩
  | _, _, _, _, _ => none

/-- GRANT_SET (R137). -/
def execGrantSet (p : Port) (s : State) : Host.Outcome State Fault Refusal :=
  .next <| s.serve p rowGrantSet fun r t =>
    match r.grants with
    | none => (t, bare .range)
    | some g =>
      let out := t.setGrants g
      (out.1, okData (g.bytes ++ flagByte out.2))

/-- GRANT_READ (R139). -/
def execGrantRead (p : Port) (s : State) : Host.Outcome State Fault Refusal :=
  .next <| s.serveRead p rowGrantRead fun _ t => okData t.store.grants.bytes

end Sys2Proof.Machine
end

