-- ==== Sys2Proof/Machine/Clock.lean ====
section
/-! DEFINITION. The Civil Clock and Schedule Unit: calendar, timebase, epoch evaluation (chapter 03). -/

namespace Sys2Proof.Machine

/-! ### The calendar (R46 to R48) -/

/-- The year is a leap year: every year of 2000 to 2099 divisible by 4 (R46). -/
def leapYear (y : Nat) : Bool := y % 4 == 0

/-- The length of a month (R46). -/
def monthLength (y m : Nat) : Nat :=
  match m with
  | 4 | 6 | 9 | 11 => 30
  | 2 => if leapYear y then 29 else 28
  | _ => 31

/-- The days of the whole years from 2000 up to the year before `y` (R48). -/
def daysBeforeYear (y : Nat) : Nat := 365 * (y - 2000) + (y - 2000 + 3) / 4

/-- The days of the whole months of year `y` before month `m` (R48). -/
def daysBeforeMonth (y : Nat) : Nat → Nat
  | 0 => 0
  | 1 => 0
  | m + 1 => daysBeforeMonth y m + monthLength y m

/-- The number of days from 2000-01-01 to the date (R48). -/
def CivilTime.dayNumber (t : CivilTime) : Nat := daysBeforeYear t.year + daysBeforeMonth t.year t.month + (t.day - 1)

/-- The weekday, 0 for Sunday to 6 for Saturday (R48). -/
def CivilTime.weekday (t : CivilTime) : Nat := (6 + t.dayNumber) % 7

/-- The minute of day (R45). -/
def CivilTime.minuteOfDay (t : CivilTime) : Nat := 60 * t.hour + t.minute

/-- A second rollover is a minute rollover: the second passes 59 (R46). -/
def CivilTime.endsMinute (t : CivilTime) : Bool := decide (59 ≤ t.second)

/-- The day advances, with its carries; the end of 2099 wraps to 2000 (R46 steps 4 and 5, R47). -/
def CivilTime.nextDay (t : CivilTime) : CivilTime :=
  if t.day < monthLength t.year t.month then { t with day := t.day + 1 }
  else if t.month < 12 then { t with day := 1, month := t.month + 1 }
  else { t with day := 1, month := 1, year := if t.year < 2099 then t.year + 1 else 2000 }

/-- The time one second later (R46, R47). -/
def CivilTime.nextSecond (t : CivilTime) : CivilTime :=
  if t.second < 59 then { t with second := t.second + 1 }
  else if t.minute < 59 then { t with second := 0, minute := t.minute + 1 }
  else if t.hour < 23 then { t with second := 0, minute := 0, hour := t.hour + 1 }
  else CivilTime.nextDay { t with second := 0, minute := 0, hour := 0 }

/-- A civil date and time that CLOCK_SET accepts (R52 step 1). -/
def CivilTime.valid (t : CivilTime) : Bool :=
  decide (2000 ≤ t.year) && decide (t.year ≤ 2099) && decide (1 ≤ t.month) && decide (t.month ≤ 12) &&
    decide (1 ≤ t.day) && decide (t.day ≤ monthLength t.year t.month) && decide (t.hour ≤ 23) &&
    decide (t.minute ≤ 59) && decide (t.second ≤ 59)

/-! ### Epoch evaluation (R60 to R62) -/

/-- The months and weekdays of an entry include a day. -/
def onDay (e : EpochFields) (month weekday : Nat) : Bool :=
  e.months.getLsbD (month - 1) && e.weekdays.getLsbD weekday

/-- An entry passes parity: the parity computed afresh from its stored fields equals the stored value (R56). -/
def EpochEntry.passes (e : EpochEntry) : Bool := decide (e.parity = e.fields.parity)

/-- An entry that takes part in an evaluation: in use and passing parity (R61, R62). -/
def EpochEntry.takesPart (e : EpochEntry) : Bool := e.fields.inUse && e.passes

/-- Of the entries that satisfy `p`, the one with the greatest start minute, ties to the lowest index (R61). -/
def chooseEpoch (t : EpochBank EpochEntry) (p : EpochEntry → Bool) : Option (Fin 24) :=
  allEntries.foldl
    (fun best i =>
      if p (t.get i) then
        match best with
        | none => some i
        | some j => if (t.get j).fields.start < (t.get i).fields.start then some i else best
      else best)
    none

/-- Yesterday's weekday: the weekday before today's (R61). -/
def CivilTime.yesterdayWeekday (t : CivilTime) : Nat := (t.weekday + 6) % 7

/-- Yesterday's month: today's, but the month before on day 1 (R61). -/
def CivilTime.yesterdayMonth (t : CivilTime) : Nat :=
  if t.day = 1 then (if t.month = 1 then 12 else t.month - 1) else t.month

/-- A step 1 candidate (R61). -/
def EpochEntry.today (t : CivilTime) (e : EpochEntry) : Bool :=
  e.takesPart && onDay e.fields t.month t.weekday && decide (e.fields.start ≤ t.minuteOfDay)

/-- A step 2 candidate (R61). -/
def EpochEntry.yesterday (t : CivilTime) (e : EpochEntry) : Bool :=
  e.takesPart && onDay e.fields t.yesterdayMonth t.yesterdayWeekday

/-- The active epoch record an entry gives (R60). -/
def activeOf (i : Fin 24) (e : EpochEntry) : ActiveEpoch :=
  { index := i, commercial := e.fields.commercial, authority := e.fields.authority, fallback := e.fields.fallback,
    dark := e.fields.dark }

/-- The active entry chosen at a time from a table, in the three steps of R61. -/
def evaluateTable (t : CivilTime) (table : EpochBank EpochEntry) : Option ActiveEpoch :=
  match chooseEpoch table (EpochEntry.today t) with
  | some i => some (activeOf i (table.get i))
  | none =>
    match chooseEpoch table (EpochEntry.yesterday t) with
    | some i => some (activeOf i (table.get i))
    | none => none

/-- An entry that this evaluation reports: in use, failing parity, marker clear (R62). -/
def EpochEntry.toReport (e : EpochEntry) : Bool := e.fields.inUse && !e.passes && !e.reported

/-- The TABLE_PARITY reports of an evaluation, lowest index first, with the entries' markers set (R62). -/
def State.reportParity (s : State) : State :=
  let due := allEntries.filter fun i => (s.clock.epochs.get i).toReport
  let t := s.withClock
    { s.clock with
      epochs := s.clock.epochs.mapIdx fun _ e => if e.toReport then { e with reported := true } else e }
  due.foldl (fun u i => u.report (deviceReport .tableParity .event i.val)) t

/-- One epoch evaluation (R60 to R62). With the clock-valid flag clear it sets the record to none and considers no entry.
Parity failures are reported while no main reset is under way. -/
def State.evaluate (s : State) : State :=
  if s.clock.valid then
    let t := if s.running then s.reportParity else s
    t.withClock { t.clock with active := evaluateTable s.clock.time s.clock.epochs }
  else s.withClock { s.clock with active := none }

/-! ### The clock's events -/

/-- A second rollover: the prescaler returns to 0 and the time advances; a minute rollover taken while the clock-valid flag is
set takes an evaluation (R46, R60). -/
def State.secondRollover (s : State) : State :=
  let t := s.withClock { s.clock with prescaler := 0, time := s.clock.time.nextSecond }
  if s.clock.time.endsMinute && s.clock.valid then t.evaluate else t

/-- SECOND_ROLLOVER (R46). It does not depend on the main supply (R60, R160). While the timebase-failed flag is set no edge has
come, so no rollover arises (R49, R50). -/
def execSecondRollover (s : State) : Host.Outcome State Fault Refusal :=
  .next (if s.clock.failed then s else s.secondRollover)

/-- TIMEBASE_FAILURE (R49, R51, R60). It arises only while the main domain runs and the flag is clear. The prescaler stays
where the last edge left it, which is the operand (log 5). -/
def execTimebaseFailure (prescaler : Fin 32768) (s : State) : Host.Outcome State Fault Refusal :=
  .next <|
    if s.running && !s.clock.failed then
      let t := s.withClock
        { s.clock with failed := true, valid := false, active := none, prescaler := prescaler.val }
      if s.clock.valid then
        (t.modConditions fun c => { c with clockInvalid := true }).report (deviceReport .clockInvalid .raised 0)
      else t
    else s

/-- TIMEBASE_FIRST_EDGE (R50): the flag clears, also on battery, and the prescaler counts the edge as any edge, which may
complete a second (R46). -/
def execTimebaseFirstEdge (s : State) : Host.Outcome State Fault Refusal :=
  .next <|
    if s.clock.failed then
      let t := s.withClock { s.clock with failed := false, prescaler := s.clock.prescaler + 1 }
      if s.clock.prescaler + 1 < Config.edgesPerSecond then t else t.secondRollover
    else s

/-- BACKUP_STORAGE_DISTURBANCE (R56): the stored contents of an entry change, fields and parity value, each field to a value that
R55 gives it. Whether the entry passes parity from then on is as the fresh parity of the new fields says. The parity-reported marker is not among the fields the check
covers and keeps its value (log 9). -/
def execBackupStorageDisturbance (index : Fin 24) (contents : EpochContents) (s : State) :
    Host.Outcome State Fault Refusal :=
  .next <|
    s.withClock
      { s.clock with
        epochs := s.clock.epochs.set index
          { fields := contents.fields, parity := contents.parity, reported := (s.clock.epochs.get index).reported } }

end Sys2Proof.Machine
end

