-- ==== Sys2Proof/Machine/ClockRequests.lean ====
section
/-! DEFINITION. The requests of the Civil Clock and Schedule Unit (chapter 03). -/

namespace Sys2Proof.Machine

/-- CLOCK_READ (R54). -/
def execClockRead (p : Port) (s : State) : Host.Outcome State Fault Refusal :=
  .next <| s.serveRead p rowClockRead fun _ t =>
    okData <| t.clock.time.bytes ++ be1 t.clock.time.weekday ++ be2 t.clock.time.minuteOfDay ++
      flagByte t.clock.valid ++ flagByte t.clock.failed

/-- What CLOCK_SET does after its checks: the load, the prescaler, the flag with its report, an evaluation (R51, R52). -/
def State.setClock (s : State) (time : CivilTime) : State :=
  let t := s.withClock { s.clock with time, prescaler := 0, valid := true }
  let u :=
    if s.clock.valid then t
    else
      (t.modConditions fun c => { c with clockInvalid := false }).report (deviceReport .clockInvalid .cleared 0)
  u.evaluate

/-- CLOCK_SET (R52). -/
def execClockSet (p : Port) (s : State) : Host.Outcome State Fault Refusal :=
  .next <| s.serve p rowClockSet fun r t =>
    if !r.civilTime.valid then (t, bare .range)
    else if t.clock.failed then (t, bare .noClock)
    else (t.setClock r.civilTime, bare .ok)

/-- EPOCH_READ (R59). -/
def execEpochRead (p : Port) (s : State) : Host.Outcome State Fault Refusal :=
  .next <| s.serveRead p rowEpochRead fun r t =>
    match r.entry 0 with
    | none => bare .range
    | some i =>
      let e := t.clock.epochs.get i
      okData <| be1 i.val ++ flagByte e.fields.inUse ++ epochBytes e.fields ++ flagByte e.passes ++
        flagByte e.reported

/-- The state with an epoch entry stored with fresh parity and its marker cleared, followed by an evaluation (R57, R58). -/
def State.storeEpoch (s : State) (i : Fin 24) (f : EpochFields) : State :=
  (s.withClock
    { s.clock with
      epochs := s.clock.epochs.set i { fields := f, parity := f.parity, reported := false } }).evaluate

/-- The fields with ceilings and fallback lux clamped (R57 step 3). -/
def clampEpoch (f : EpochFields) : EpochFields :=
  { f with
    commercial := min Config.levelMax f.commercial, authority := min Config.levelMax f.authority
    fallback := min Config.luxMax f.fallback }

/-- EPOCH_WRITE (R57). -/
def execEpochWrite (p : Port) (s : State) : Host.Outcome State Fault Refusal :=
  .next <| s.serve p rowEpochWrite fun r t =>
    match r.entry 0 with
    | none => (t, bare .range)
    | some i =>
      let f := r.epochFields
      if f.months = 0 ∨ f.weekdays = 0 ∨ 1440 ≤ f.start then (t, bare .range)
      else (t.storeEpoch i (clampEpoch f), bare .ok)

/-- EPOCH_ERASE (R58). -/
def execEpochErase (p : Port) (s : State) : Host.Outcome State Fault Refusal :=
  .next <| s.serve p rowEpochErase fun r t =>
    match r.entry 0 with
    | none => (t, bare .range)
    | some i => (t.storeEpoch i { (t.clock.epochs.get i).fields with inUse := false }, bare .ok)

end Sys2Proof.Machine
end

