-- ==== Sys2Proof/Machine/Resolver.lean ====
section
/-! DEFINITION. The Luminance Resolver (chapter 01): the six stages of a resolve expiry. -/

namespace Sys2Proof.Machine

/-! ### Stage 1: curve luminance (R3 to R5) -/

/-- The ambient value and the grade a resolve expiry uses: E_f and the grade, or, before the first gate completion, the
fallback lux and grade 0 (R3, R4). -/
def State.resolverAmbient (s : State) : Nat × Nat :=
  match s.ambient.filtered with
  | some e => (e, s.ambient.grade)
  | none => (s.fallback, 0)

/-- The curve luminance at an ambient value: the first point's level at or below its breakpoint, the last point's at or
above its breakpoint, and between two points the floor of the straight line (R5). -/
def curveAt : List CurvePoint → Nat → Nat
  | [], _ => 0
  | [p], _ => p.l
  | p :: q :: rest, e =>
    if e < q.b then
      if e ≤ p.b then p.l else p.l + (e - p.b) * (q.l - p.l) / (q.b - p.b)
    else curveAt (q :: rest) e

/-- Lc (R5). -/
def State.curveLuminance (s : State) : Nat := curveAt s.ambient.curve.toList s.resolverAmbient.1

/-! ### Stage 2: requested level (R6) -/

/-- Lr_z (R6). -/
def requestedLevel (lc : Nat) (r : ResolverZone) : Nat :=
  match r.operator with
  | .on => lc * r.gain / 256
  | .off => 0

/-! ### Stage 3: the ceiling (R8 to R15) -/

/-- The entry covers the zone with the kind (R8, R10, R17). -/
def Override.covers (e : Override) (k : OverrideKind) (z : Zone) : Bool := e.kind == k && inMask e.mask z

/-- The chosen FORCE of a zone: of the covering FORCE entries of the highest priority, the newest (R8). -/
def chosenForce (stack : List Override) (z : Zone) : Option Override :=
  stack.foldl
    (fun best e =>
      if e.covers .force z then
        match best with
        | none => some e
        | some b => if b.priority ≤ e.priority then some e else best
      else best)
    none

/-- The least level of the CAP entries that cover a zone, none when there is none (R10). -/
def capLevel (stack : List Override) (z : Zone) : Option Nat :=
  stack.foldl
    (fun best e =>
      if e.covers .cap z then
        match best with
        | none => some e.level
        | some b => some (min b e.level)
      else best)
    none

/-- A limit: its value and its name (R13 to R15). -/
structure Limit where
  value : Nat
  reason : CeilingReason
  deriving DecidableEq, Repr

/-- The failsafe ceiling of a class (R9). -/
def AuthSettings.failsafeCeiling (a : AuthSettings) : ZoneClass → Nat
  | .commercial => a.failsafeCommercial
  | .authority => a.failsafeAuthority

/-- The schedule limit of an ordinary zone (R9). -/
def State.scheduleLimit (s : State) (cls : ZoneClass) : Limit :=
  match s.authority.mode, s.clock.valid, s.clock.active with
  | .normal, true, some e =>
    match cls with
    | .authority => ⟨e.authority, .schedule⟩
    | .commercial => ⟨if e.dark then 0 else e.commercial, .schedule⟩
  | _, _, _ => ⟨s.authority.settings.failsafeCeiling cls, .failsafe⟩

/-- The thermal limit of a zone, none when it is not in force (R11). -/
def thermalLimit (a : AuthSettings) (lmax : Nat) (thermFault : Bool) (latest : Option Conversion) : Option Nat :=
  if thermFault then some (lmax / 2)
  else
    match latest with
    | none => none
    | some c =>
      if c.celsius ≤ a.knee then none
      else if a.cut ≤ c.celsius then some 0
      else some ((lmax : Int) * (a.cut - c.celsius) / (a.cut - a.knee)).toNat

/-- The fault cap of a zone is in force: OPEN or SHORT is asserted with reaction DIM (R12). -/
def State.faultCapInForce (s : State) (z : Zone) : Bool :=
  let m := s.monitor.zones.get z
  (s.entry z .openString).asserted && m.openReaction == .dim ||
    (s.entry z .shortString).asserted && m.shortReaction == .dim

/-- The least of some limits; of equal ones the first in the list (R13 to R15). -/
def leastLimit (first : Limit) (rest : List Limit) : Limit :=
  rest.foldl (fun best l => if l.value < best.value then l else best) first

/-- The limits that an ordinary zone and a FORCE zone have in common, in the order of R15. -/
def State.commonLimits (s : State) (z : Zone) : List Limit :=
  let lmax := (s.drive.zones.get z).record.lmax
  (match thermalLimit s.authority.settings lmax (s.entry z .thermFault).asserted (s.monitor.zones.get z).latest with
    | some v => [⟨v, .thermal⟩]
    | none => []) ++
    (if s.faultCapInForce z then [⟨lmax / 2, .fault⟩] else []) ++ [⟨lmax, .physical⟩]

/-- The ceiling of a zone and its reason: the least limit in force, the first of equal ones in the order SCHEDULE, FAILSAFE,
CAP, FORCE, THERMAL, FAULT, PHYSICAL (R13 to R15). -/
def State.ceilingLimit (s : State) (z : Zone) : Limit :=
  match chosenForce s.authority.stack z with
  | some f => leastLimit ⟨f.level, .force⟩ (s.commonLimits z)
  | none =>
    leastLimit (s.scheduleLimit (s.drive.zones.get z).record.cls)
      ((match capLevel s.authority.stack z with
          | some v => [⟨v, .cap⟩]
          | none => []) ++ s.commonLimits z)

/-! ### Stages 4 to 6: target, present level, duty (R16 to R21) -/

/-- The zone is blanked (R17). -/
def State.blanked (s : State) (z : Zone) : Bool :=
  s.authority.stack.any (fun e => e.covers .blank z) || s.authority.killFor z || s.lockedOut z ||
    (s.resolver.get z).operator == .off

/-- The up-step U (R19). -/
def upStep (a : AuthSettings) (grade p : Nat) : Nat :=
  let u := max a.upAbs (p * a.upRel / 256)
  if grade = 0 then max 1 (u / 2) else u

/-- The down-step D (R20). -/
def downStep (a : AuthSettings) (p : Nat) : Nat := max a.downAbs (p * a.downRel / 256)

/-- The new present level, by the first case of R18 that applies. -/
def newPresent (a : AuthSettings) (grade : Nat) (blanked force : Bool) (p t c : Nat) : Nat :=
  if blanked then 0
  else if c < p then c
  else if force then t
  else if p < t then min t (p + upStep a grade p)
  else if t < p then max t (p - downStep a p)
  else p

/-- The duty of a present level (R21). -/
def dutyOf (p lmax : Nat) : Nat := min 65535 (p * 65536 / lmax)

/-- The present level from which a resolve expiry goes on: P_z of the previous expiry (R18), but 0 for a zone whose lockout ended
at a rearm since then (R116). -/
def ResolverZone.previous (r : ResolverZone) : Nat := if r.fromZero then 0 else r.present

/-- What the Resolver holds for an installed zone after a resolve expiry (Stages 2 to 6). -/
def State.resolveZone (s : State) (z : Zone) : ResolverZone :=
  let r := s.resolver.get z
  let c := s.ceilingLimit z
  let force := (chosenForce s.authority.stack z).isSome
  let t := if force then c.value else min (requestedLevel s.curveLuminance r) c.value
  let p := newPresent s.authority.settings s.resolverAmbient.2 (s.blanked z) force r.previous t c.value
  { r with
    present := p, target := t, ceiling := c.value, reason := c.reason
    duty := dutyOf p (s.drive.zones.get z).record.lmax, fromZero := false }

/-! ### The expiry -/

/-- The first installed zone at or after a number: the next zone of a scan (R107). -/
def State.nextScanZone (s : State) (from_ : Nat) : Option Scan :=
  (allZones.find? fun z => decide (from_ ≤ z.val) && s.installed z).map fun z => ⟨z, false⟩

/-- RESOLVE_EXPIRY: Stages 1 to 6 for every installed zone, its duty buffer and swap-pending flag (R1, R21), the windows
(R104), and the beginning of a temperature scan with the scan Tc (R107). The resolve timer stands still in a main reset. -/
def execResolveExpiry (s : State) : Host.Outcome State Fault Refusal :=
  .next <|
    if s.running then
      ((s.withResolver (s.resolver.mapIdx fun z r => if s.installed z then s.resolveZone z else r)).withDrive
          { s.drive with
            zones := s.drive.zones.mapIdx fun z c =>
              if c.record.installed then { c with dutyBuffer := (s.resolveZone z).duty, swapPending := true }
              else c }).withMonitor
        { s.monitor with
          zones := s.monitor.zones.mapIdx fun z m =>
            { m with window := if s.installed z && !m.lockout then .waiting else .idle }
          scanCut := s.authority.settings.cut
          scan := s.nextScanZone 0 }
    else s

end Sys2Proof.Machine
end

