-- ==== Sys2Proof/Machine/Monitor.lean ====
section
/-! DEFINITION. The String and Thermal Monitor's sampling and temperature scan (chapter 06). -/

namespace Sys2Proof.Machine

/-! ### Windows (R104, R105) -/

/-- The middle of the ON time under a compare (R105). -/
def onMiddle (c : Nat) : Nat := c / 2

/-- The middle of the OFF time under a compare (R105). -/
def offMiddle (c : Nat) : Nat := c + (Config.periodCounts - c) / 2

/-- The window that opens with a compare and an effective mode: its sample points (R105). No installed zone is in FLOAT
(R94), so a window never opens in it. -/
def openWindow (mode : EffectiveMode) (c : Nat) : Window :=
  match mode with
  | .pwm =>
    .opened (if Config.sampleRoom ≤ c then some (onMiddle c) else none)
      (if c < Config.sampleRoom ∨ Config.sampleRoom ≤ Config.periodCounts - c then some (offMiddle c) else none)
  | .off => .opened none (some 2048)
  | .inactive => .opened none (some 2048)
  | .float => .opened none none

/-- The window at a period end that begins a full period (R104). -/
def Window.atFullPeriod (w : Window) (mode : EffectiveMode) (c : Nat) : Window :=
  match w with
  | .waiting => openWindow mode c
  | .idle => .idle
  | .opened _ _ => .idle

/-- The window at a period end that begins a shortened period, or of an uninstalled zone (R104). -/
def Window.atOtherPeriod : Window → Window
  | .waiting => .waiting
  | .idle => .idle
  | .opened _ _ => .idle

/-! ### Sample points (R105, R106) -/

/-- The reference of a threshold code in the unit of the sensed current: code/256 of full scale (R103; log 14). -/
def reference (code : Nat) : Nat := 256 * code

/-- BAD when the condition holds, else GOOD (R106). -/
def judge (bad : Bool) : SampleOutcome := if bad then .bad else .good

/-- The shared count at which a zone's local count has a value (R86). -/
def countAt (phase localCount : Nat) : Nat := (phase + localCount) % Config.periodCounts

/-- The ON point of a zone is reached at a local count: OPEN is qualified, then SHORT, unless the force hold is set (R105,
R106). The detail is the compare in force (R110). -/
def State.sampleOn (s : State) (z : Zone) (at_ : Nat) (off : Option Nat) (current : Nat) : State :=
  let ch := s.drive.zones.get z
  let m := s.monitor.zones.get z
  let t := (s.modMonitor z fun m => { m with window := .opened none off }).withDrive
    { s.drive with sharedCount := countAt ch.phase at_ }
  if ch.hold then t
  else
    let u := t.qualify z .openString (judge (decide (current < reference m.openThreshold))) ch.compare
    u.qualify z .shortString (judge (decide (reference m.shortThreshold < current))) ch.compare

/-- The OFF point of a zone is reached at a local count: STUCK_ON is qualified, under the force hold too (R105, R106). The ON
point of the window lies before it, so none is left. -/
def State.sampleOff (s : State) (z : Zone) (at_ : Nat) (current : Nat) : State :=
  let ch := s.drive.zones.get z
  let m := s.monitor.zones.get z
  let t := (s.modMonitor z fun m => { m with window := .opened none none }).withDrive
    { s.drive with sharedCount := countAt ch.phase at_ }
  t.qualify z .stuckOn (judge (decide (reference m.openThreshold ≤ current))) ch.compare

/-- SAMPLE_POINT (R105, R106, R110): it arises while the zone's window is open with that point still to come. A window is open
only for a zone that is installed and not locked out (R104, R113). -/
def execSamplePoint (z : Zone) (pt : SamplePoint) (current : Nat) (s : State) : Host.Outcome State Fault Refusal :=
  .next <|
    if s.running && s.installed z && !s.lockedOut z then
      match (s.monitor.zones.get z).window, pt with
      | .opened (some c) off, .on => s.sampleOn z c off current
      | .opened _ (some c), .off => s.sampleOff z c current
      | _, _ => s
    else s

/-! ### The temperature scan (R107 to R109) -/

/-- The temperature of a code (R108). -/
def celsiusOf (code : Nat) : Int := ((code * 190 / 1023 : Nat) : Int) - 40

/-- The converter's code is that of a failed thermistor (R109). -/
def endCode (code : Nat) : Bool := code == 0 || code == 1023

/-- The OVERTEMP outcome of a conversion (R109). -/
def overtempOutcome (code : Nat) (t cut : Int) (thermFault : Bool) : SampleOutcome :=
  if endCode code || thermFault then .none
  else if cut ≤ t then .bad
  else if t ≤ cut - 5 then .good
  else .none

/-- A conversion of an installed zone completes: code and temperature are stored, and, unless the zone is locked out,
THERM_FAULT and then OVERTEMP are qualified (R108, R109, R113). -/
def State.convert (s : State) (z : Zone) (code : Nat) : State :=
  let t := celsiusOf code
  let u := s.modMonitor z fun m => { m with latest := some ⟨code, t⟩ }
  if s.lockedOut z then u
  else
    let v := u.qualify z .thermFault (judge (endCode code)) code
    v.qualify z .overtemp (overtempOutcome code t s.monitor.scanCut (v.entry z .thermFault).asserted) (t + 40).toNat

/-- CONVERSION_COMPLETION (R107 to R109): it arises for the zone whose conversion is in progress; a discarded conversion stores
and qualifies nothing. The next installed zone's conversion begins. -/
def execConversionCompletion (code : Fin 1024) (s : State) : Host.Outcome State Fault Refusal :=
  .next <|
    match s.monitor.scan with
    | none => s
    | some c =>
      if s.running then
        let t := if c.discarded || !s.installed c.zone then s else s.convert c.zone code.val
        t.withMonitor { t.monitor with scan := s.nextScanZone (c.zone.val + 1) }
      else s

end Sys2Proof.Machine
end

