-- ==== Sys2Proof/Machine/FaultRequests.lean ====
section
/-! DEFINITION. The requests of the Monitor, the Fault Recorder and the Attention Logic (chapters 06, 07 and 10). -/

namespace Sys2Proof.Machine

/-! ### FAULT_SETUP (R114, R115) -/

/-- The thresholds and reactions of a FAULT_SETUP (R114). -/
structure FaultSetupArgs where
  openThreshold : Nat
  shortThreshold : Nat
  openReaction : Reaction
  shortReaction : Reaction
  stuckReaction : Reaction
  overtempReaction : Reaction
  deriving DecidableEq, Repr

/-- The thresholds and reactions of the argument bytes, none when a reaction code is not a choice of its kind (R114 step 1). -/
def Request.faultSetup (r : Request) : Option FaultSetupArgs :=
  match reactionOfCode .openString (r.u1 4), reactionOfCode .shortString (r.u1 5), reactionOfCode .stuckOn (r.u1 6),
    reactionOfCode .overtemp (r.u1 7) with
  | some a, some b, some c, some d => some ⟨r.u1 2, r.u1 3, a, b, c, d⟩
  | _, _, _, _ => none

/-- A zone's setup replaced (R114 step 3). -/
def MonitorZone.withSetup (m : MonitorZone) (a : FaultSetupArgs) : MonitorZone :=
  { m with
    openThreshold := a.openThreshold, shortThreshold := a.shortThreshold, openReaction := a.openReaction
    shortReaction := a.shortReaction, stuckReaction := a.stuckReaction, overtempReaction := a.overtempReaction }

/-- The count of an entry under a new Q: Q if the kind is asserted, else 0 (R115). -/
def FaultEntry.requalify (q : Nat) (e : FaultEntry) : FaultEntry := { e with count := if e.asserted then q else 0 }

/-- Some asserted kind of the zone has its reaction changed to OFF (R115). -/
def turnedOff (before after : MonitorZone) (entries : KindBank FaultEntry) : Bool :=
  allKinds.any fun k =>
    (entries.get k).asserted && before.reaction k != .off && after.reaction k == .off

/-- The effects of a FAULT_SETUP served with OK (R114, R115). The engine's part of a lockout is that of R99 and R101. With Q
unchanged no count is touched, as R115 gives, so a kind on its way to clearing that locks the zone here keeps its count below Q,
although R113 has the kind that locked the zone hold at Q: the model follows R115 (log 32). -/
def State.setFaultSetup (s : State) (mask : ZoneMask) (a : FaultSetupArgs) (q : Nat) : State :=
  let stored (z : Zone) (m : MonitorZone) : MonitorZone := if inMask mask z then m.withSetup a else m
  let locks (z : Zone) : Bool :=
    inMask mask z && s.installed z && !s.lockedOut z &&
      turnedOff (s.monitor.zones.get z) (stored z (s.monitor.zones.get z)) (s.recorder.table.get z)
  let t := s.withMonitor
    { s.monitor with
      limit := q
      zones := s.monitor.zones.mapIdx fun z m =>
        if locks z then { stored z m with lockout := true, window := .idle } else stored z m }
  let u := t.withDrive
    { t.drive with
      zones := t.drive.zones.mapIdx fun z c => if locks z then { c with hold := true, supplyEnable := false } else c }
  if q = s.monitor.limit then u
  else
    u.withRecorder
      { u.recorder with table := u.recorder.table.mapIdx fun _ es => es.map (FaultEntry.requalify q) }

/-- FAULT_SETUP (R114, R115). -/
def execFaultSetup (p : Port) (s : State) : Host.Outcome State Fault Refusal :=
  .next <| s.serve p rowFaultSetup fun r t =>
    match r.faultSetup with
    | none => (t, bare .range)
    | some a =>
      if r.mask 0 ≠ 0 ∧ a.shortThreshold ≤ a.openThreshold then (t, bare .range)
      else (t.setFaultSetup (r.mask 0) a (clamp 2 15 (r.u1 8)), bare .ok)

/-! ### FAULT_READ and ZONE_REARM (R116, R121) -/

/-- FAULT_READ (R114, R121, R154). Count and flag read as they stand, so a kind on its way to clearing reads with its flag set and
a count below Q (log 31). -/
def execFaultRead (p : Port) (s : State) : Host.Outcome State Fault Refusal :=
  .next <| s.serveRead p rowFaultRead fun r t =>
    match r.zone 0 with
    | none => bare .range
    | some z =>
      let m := t.monitor.zones.get z
      okData <| be1 z.val ++ allKinds.flatMap (fun k => (t.entry z k).bytes) ++ flagByte m.lockout ++
        be1 m.openThreshold ++ be1 m.shortThreshold ++ be1 m.openReaction.code ++ be1 m.shortReaction.code ++
        be1 m.stuckReaction.code ++ be1 m.overtempReaction.code ++ be1 t.monitor.limit ++
        flagByte m.latest.isSome ++
        (match m.latest with
          | some c => signed2 c.celsius ++ be2 c.code
          | none => [0, 0, 0, 0]) ++
        be2 t.recorder.conditions.weights

/-- One kind of a rearmed zone: count 0, flag clear, and a CLEARED record with detail 0 where it was asserted (R116). -/
def State.rearmKind (s : State) (z : Zone) (k : FaultKind) : State :=
  let e := s.entry z k
  let t := s.setEntry z k { e with count := 0, asserted := false }
  if e.asserted then t.report ⟨.zone z, .zoneFault k, .cleared, 0⟩ else t

/-- A lockout ends at a rearm: the flag clears and the supply enable goes high; the force hold clears at the zone's next period
end; and the next resolve expiry raises the zone from a present level of 0 (R116, R99, R101). P_z and the duty themselves change
at that expiry (R2; log 30). -/
def State.endLockout (s : State) (z : Zone) : State :=
  ((s.modMonitor z fun m => { m with lockout := false }).modChannel z fun c => { c with supplyEnable := true }).withResolver
    (s.resolver.set z { s.resolver.get z with fromZero := true })

/-- The effects of a ZONE_REARM of an installed zone (R116). -/
def State.rearm (s : State) (z : Zone) : State :=
  let t := allKinds.foldl (fun u k => u.rearmKind z k) s
  if s.lockedOut z then t.endLockout z else t

/-- ZONE_REARM (R116). -/
def execZoneRearm (p : Port) (s : State) : Host.Outcome State Fault Refusal :=
  .next <| s.serve p rowZoneRearm fun r t =>
    match r.zone 0 with
    | none => (t, bare .range)
    | some z => if t.installed z then (t.rearm z, bare .ok) else (t, bare .notFound)

/-! ### JOURNAL_READ (R126, R128) -/

/-- The oldest unread records of a port, at most four, oldest first (R126, R128 step 1). -/
def Recorder.oldestUnread (r : Recorder) (p : Port) : List JournalRecord :=
  (r.journal.drop (r.journal.length - r.unread.get p)).take (min Config.journalBurst (r.unread.get p))

/-- The counts of a port after its read (R128 step 3). -/
def Recorder.markRead (r : Recorder) (p : Port) : Recorder :=
  { r with
    unread := r.unread.set p (r.unread.get p - min Config.journalBurst (r.unread.get p))
    missed := r.missed.set p 0 }

/-- JOURNAL_READ (R128, R153). -/
def execJournalRead (p : Port) (s : State) : Host.Outcome State Fault Refusal :=
  .next <| s.serve p rowJournalRead fun _ t =>
    let n := min Config.journalBurst (t.recorder.unread.get p)
    (t.withRecorder (t.recorder.markRead p),
      okData <| be1 (t.recorder.missed.get p) ++ be1 n ++ be1 (t.recorder.unread.get p - n) ++
        be1 t.recorder.journal.length ++ (t.recorder.oldestUnread p).flatMap JournalRecord.bytes)

/-! ### ATTN_READ and ATTN_MASK (R158, R159) -/

/-- The latched causes of a port cleared: those that stand in the pending set are the latched ones that are set (R158 step 3). -/
def Attention.clearLatched (a : Attention) (p : Port) : Attention :=
  match p with
  | .a => { a with overrideExpired := false, grade := a.grade.set .a false }
  | .o => { a with grant := false, grade := a.grade.set .o false }

/-- ATTN_READ (R158). -/
def execAttnRead (p : Port) (s : State) : Host.Outcome State Fault Refusal :=
  .next <| s.serve p rowAttnRead fun _ t =>
    (t.withAttention (t.attention.clearLatched p),
      okData <| be2 (t.pendingWeights p) ++ be1 (t.highestCause p) ++
        be1 (match p with
          | .a => t.attention.lastExpired
          | .o => 0))

/-- ATTN_MASK (R159). -/
def execAttnMask (p : Port) (s : State) : Host.Outcome State Fault Refusal :=
  .next <| s.serve p rowAttnMask fun r t =>
    (t.withAttention { t.attention with mask := t.attention.mask.set p (BitVec.ofNat 9 (r.u2 0)) }, bare .ok)

end Sys2Proof.Machine
end

