-- ==== Sys2Proof/Machine/Link.lean ====
section
/-! DEFINITION. The link ports (chapter 09): addresses, data bytes, the taking of a request, the reading of a response. -/

namespace Sys2Proof.Machine

/-- A port's data changed. -/
def State.modPort (s : State) (p : Port) (f : LinkPort → LinkPort) : State :=
  s.withPorts (s.ports.set p (f (s.ports.get p)))

/-- A request is handed to the Table Store: selected at once while it is IDLE (R132). -/
def State.handOver (s : State) (p : Port) : State :=
  match s.store.serving with
  | none => s.withStore { s.store with serving := some p }
  | some _ => s

/-- The port takes a request: slot, PENDING response, receive state IDLE; on the A-port the Presence Timer and the mode follow
(R146, R75); the Table Store selects it while IDLE (R132). -/
def State.take (s : State) (p : Port) (r : Request) : State :=
  let t := s.modPort p fun l => { l with receive := .idle, slot := some r, response := bare .pending }
  let u := match p with
    | .a => t.authorityHeard
    | .o => t
  u.handOver p

/-- The write transaction in progress on a port ends, at a STOP or a repeated START (R146). With no data byte received nothing
is taken. -/
def State.endWrite (s : State) (p : Port) : State :=
  match (s.ports.get p).receive with
  | .idle => s
  | .receiving none _ _ => s.modPort p fun l => { l with receive := .idle }
  | .receiving (some c) args n => s.take p ⟨c, args, n⟩

/-- REQUEST_TAKEN: the STOP of a write transaction on a port, or of one on each port at the same moment, of which the A-port's
request is selected first (R132, R146). -/
def execRequestTaken (w : Taking) (s : State) : Host.Outcome State Fault Refusal :=
  .next <|
    if s.running then
      match w with
      | .one p => s.endWrite p
      | .both => (s.endWrite .a).endWrite .o
    else s

/-- WRITE_ADDRESS (R145): the START ends a write in progress (R146), and the address, when it is the port's own, is acknowledged
and begins RECEIVING while the slot is empty, and refused while it holds a request. During a main reset no address is
acknowledged (R149). -/
def execWriteAddress (p : Port) (addr : Address) (s : State) : Host.Outcome State Fault Refusal :=
  .next <|
    if s.running then
      (s.endWrite p).modPort p fun l =>
        if addr = l.address ∧ l.slot = none then { l with receive := .receiving none [] 0, lastAck := true }
        else { l with lastAck := false }
    else s

/-- A data byte received: the first is the code, each later one is stored up to 48 and counted up to 255 (R146). -/
def Receive.addByte (x : Receive) (b : Byte) : Receive :=
  match x with
  | .idle => .idle
  | .receiving none args n => .receiving (some b) args n
  | .receiving (some c) args n =>
    .receiving (some c) (if args.length < Config.argsStored then args ++ [b] else args) (min Config.byteStop (n + 1))

/-- DATA_BYTE (R146): acknowledged in a write transaction; outside one the byte is not the port's. -/
def execDataByte (p : Port) (b : Byte) (s : State) : Host.Outcome State Fault Refusal :=
  .next <|
    if s.running then
      s.modPort p fun l =>
        match l.receive with
        | .idle => { l with lastAck := false }
        | .receiving _ _ _ => { l with receive := l.receive.addByte b, lastAck := true }
    else s

/-- RESPONSE_READ (R147): the START ends a write in progress (R146), and the port's own address is acknowledged and copies the
response buffer into the read snapshot. The bytes the master then reads are `State.readByte`. -/
def execResponseRead (p : Port) (addr : Address) (s : State) : Host.Outcome State Fault Refusal :=
  .next <|
    if s.running then
      (s.endWrite p).modPort p fun l =>
        if addr = l.address then { l with snapshot := some l.response, lastAck := true }
        else { l with lastAck := false }
    else s

/-- UNKNOWN_CODE (R148): a served request whose code is not in the catalogue answers UNKNOWN. -/
def execUnknownCode (p : Port) (s : State) : Host.Outcome State Fault Refusal :=
  .next <|
    match s.inService p with
    | some r => if inCatalogue r.code then s else s.complete p (bare .unknown)
    | none => s

end Sys2Proof.Machine
end

