-- ==== Sys2Proof/Machine/Supply.lean ====
section
/-! DEFINITION. The Supply Supervisor: supplies, resets and start-up (chapter 11). -/

namespace Sys2Proof.Machine

/-- BROWN_OUT (R160, R163): the POWER source begins, and the backup domain goes to the battery. It arises while the main supply
is up. -/
def execBrownOut (s : State) : Host.Outcome State Fault Refusal :=
  .next <|
    if s.supply.supplyLow then s
    else
      let t := s.beginReset .power
      t.withSupply { t.supply with supplyLow := true }

/-- MAIN_SUPPLY_RISE (R160, R163): the POWER source ends, and the backup domain goes back to the main supply. -/
def execMainSupplyRise (s : State) : Host.Outcome State Fault Refusal :=
  .next (s.withSupply { s.supply with supplyLow := false })

/-- RESET_N_ASSERT (R163): the PIN source begins. It arises while RESET_N does not already hold. -/
def execResetNAssert (s : State) : Host.Outcome State Fault Refusal :=
  .next <|
    if s.supply.pinLow then s
    else
      let t := s.beginReset .pin
      t.withSupply { t.supply with pinLow := true }

/-- RESET_N_RELEASE (R163): the PIN source ends. -/
def execResetNRelease (s : State) : Host.Outcome State Fault Refusal :=
  .next (s.withSupply { s.supply with pinLow := false })

/-- RETENTION_LOSS (R163): the retention latch enters its lost state. The backup domain's supply can fall below its retention
level only while it runs on the battery (R160). -/
def execRetentionLoss (s : State) : Host.Outcome State Fault Refusal :=
  .next (if s.supply.supplyLow then s.withSupply { s.supply with retentionLost := true } else s)

/-- DEVICE_RESET (R164): served from the A-port with no argument it begins a main reset with cause REQUEST; no response is
written. -/
def execDeviceReset (p : Port) (s : State) : Host.Outcome State Fault Refusal :=
  .next <|
    match s.serviceOf p rowDeviceReset with
    | none => s
    | some r =>
      if r.count ≠ rowDeviceReset.argBytes then s.complete p (bare .length)
      else if !permitted s.store.grants p rowDeviceReset.access then s.complete p (bare .denied)
      else s.beginReset .request

/-- The backup domain as the retention latch leaves it: the total-loss values when it reports a loss (R163). -/
def State.restoreBackup (s : State) : State :=
  if s.supply.retentionLost then
    ((s.withClock clockAfterLoss).withStore { s.store with grants := defaultGrants }).withAuthority
      { s.authority with kill := defaultKill, settings := defaultSettings }
  else s

/-- The main domain at its reset values, over the backup domain that stands (R144, R165; the last columns of the state tables).
The supply's own fields follow the sources and the retention latch (R163). -/
def State.resetMain (s : State) (lost : Bool) (strapA strapO : Fin 4) : State :=
  { s with
    ports := ⟨portAfterReset Config.baseA strapA, portAfterReset Config.baseO strapO⟩
    store := { s.store with serving := none }
    ambient := ambientAfterReset
    authority := authorityAfterReset s.authority.kill s.authority.settings
    resolver := .ofFn fun _ => resolverZoneAfterReset
    drive := driveAfterReset
    monitor := monitorAfterReset s.authority.settings.cut
    recorder := recorderAfterReset (!s.clock.valid) lost
    attention := attentionAfterReset
    supply :=
      { s.supply with
        cause := if lost then .totalLoss else s.supply.lastSource
        backupLost := lost, battery := none, uptime := 0, inReset := false, retentionLost := false } }

/-- The BACKUP_LOST record of a total loss, the first of the empty journal (R165 step 3). -/
def State.reportLoss (s : State) (lost : Bool) : State :=
  if lost then s.report (deviceReport .backupLost .event 0) else s

/-- MAIN_RESET_END (R163, R165): it arises when a main reset is under way and no source holds. The retention latch is read, every
block takes its reset values, BACKUP_LOST is recorded after a loss, and the epoch evaluation is taken with its reports. -/
def execMainResetEnd (strapA strapO : Fin 4) (s : State) : Host.Outcome State Fault Refusal :=
  .next <|
    if s.supply.inReset && !s.supply.supplyLow && !s.supply.pinLow then
      let lost := s.supply.retentionLost
      ((s.restoreBackup.resetMain lost strapA strapO).reportLoss lost).evaluate
    else s

end Sys2Proof.Machine
end

