-- ==== Sys2Proof/Machine/Drive.lean ====
section
/-! DEFINITION. The Zone Drive Engine's own events (chapter 05): period ends, the count clock, FSYNC. -/

namespace Sys2Proof.Machine

/-! ### The period end (R90 to R95) -/

/-- The compare and the new dither accumulator formed from a duty (R93). -/
def formCompare (duty acc minOn : Nat) : Nat × Nat :=
  let cInt := duty / 16
  let sum := acc + duty % 16
  let raw := if 16 ≤ sum then cInt + 1 else cInt
  (if raw < minOn then 0 else raw, if 16 ≤ sum then sum - 16 else sum)

/-- The channel takes a swap: buffered duty and mode, swap-pending and armed cleared (R92 step 3). -/
def Channel.swap (c : Channel) : Channel :=
  { c with
    activeDuty := c.dutyBuffer, activeMode := c.bufferedMode, swapPending := false, armed := false }

/-- The swap decision at a period end whose first-period flag is clear (R95, R96). -/
def Channel.swapDue (c : Channel) (autoSwaps : Bool) : Bool := if autoSwaps then c.swapPending else c.armed

/-- The force hold at step 1 of a period end: it clears when no forcing cause remains (R92, R99). -/
def Channel.releaseHold (c : Channel) (forced : Bool) : Channel := if forced then c else { c with hold := false }

/-- A phase change is staged: the record's phase differs from the phase in force of an installed zone (R85, R91). -/
def Channel.phaseStaged (c : Channel) : Bool := c.record.phase != c.phase

/-- A period end that takes a staged phase: compare 0, no swap, acc kept, a staged polarity taken (R91, R92 step 2). -/
def Channel.takePhase (c : Channel) : Channel :=
  { c with phase := c.record.phase, compare := 0, polarity := c.record.polarity }

/-- Steps 3 to 5 of a period end (R92). -/
def Channel.beginPeriod (c : Channel) (autoSwaps : Bool) : Channel :=
  let swapped :=
    if c.firstPeriod then { c.swap with firstPeriod := false }
    else if c.swapDue autoSwaps then c.swap
    else c
  let out := formCompare swapped.activeDuty swapped.acc c.record.minOn
  { swapped with polarity := c.record.polarity, compare := out.1, acc := out.2 }

/-- The channel after a period end (R90 for an uninstalled zone, R92 for an installed one). -/
def Channel.atPeriodEnd (c : Channel) (forced autoSwaps : Bool) : Channel :=
  if !c.record.installed then { c with compare := 0 }
  else
    let h := c.releaseHold forced
    if h.phaseStaged then h.takePhase else h.beginPeriod autoSwaps

/-- The window after a period end of the zone, from the channel before and after it (R104, R105). -/
def windowAtPeriodEnd (before after : Channel) (w : Window) : Window :=
  if before.record.installed && !before.phaseStaged then w.atFullPeriod after.effective after.compare
  else w.atOtherPeriod

/-- PERIOD_END of a zone: the moment S reaches the zone's phase in force (R86, R92, R104). The count clock stands still in a main
reset. -/
def execPeriodEnd (z : Zone) (s : State) : Host.Outcome State Fault Refusal :=
  .next <|
    if s.running then
      let before := s.drive.zones.get z
      let after := before.atPeriodEnd (s.authority.killFor z || s.lockedOut z) s.drive.autoSwaps
      (s.withDrive
          { s.drive with zones := s.drive.zones.set z after, sharedCount := before.phase }).modMonitor z fun m =>
        { m with window := windowAtPeriodEnd before after m.window }
    else s

/-- COUNT_CLOCK_SWITCH (R87): the count clock takes the rate of the base frequency; the shared count keeps its value. -/
def execCountClockSwitch (s : State) : Host.Outcome State Fault Refusal :=
  .next (if s.running then s.withDrive { s.drive with countRate := s.drive.baseFrequency } else s)

/-! ### FSYNC (R96, R97) -/

/-- A level of FSYNC is taken. The first level after a main reset is no sync event; a later change that the edge mode names is
one (R96). -/
def State.takeFsync (s : State) (high : Bool) : State :=
  let t := s.withDrive { s.drive with fsync := some high }
  match s.drive.fsync with
  | none => t
  | some before => if before != high && s.drive.edgeMode.names high then t.syncEffects else t

/-- FSYNC_LEVEL_TAKEN (R96). -/
def execFsyncLevelTaken (high : Bool) (s : State) : Host.Outcome State Fault Refusal :=
  .next (if s.running then s.takeFsync high else s)

/-- SYNC_EVENT (R96): a change of the taken level that the edge mode names; any other level given with it is no sync event and
changes nothing (log 13). -/
def execSyncEvent (high : Bool) (s : State) : Host.Outcome State Fault Refusal :=
  .next <|
    if s.running && s.drive.fsync == some (!high) && s.drive.edgeMode.names high then s.takeFsync high else s

/-- SYNC_WATCH_EXPIRY (R97): it arises while the engine watches for sync events and the condition does not hold. -/
def execSyncWatchExpiry (s : State) : Host.Outcome State Fault Refusal :=
  .next <|
    if s.running && s.drive.watching && !s.drive.syncLost then
      ((s.withDrive { s.drive with syncLost := true, syncWatch := Config.syncWatchMs }).modConditions fun c =>
        { c with syncLost := true }).report (deviceReport .syncLost .raised 0)
    else s

end Sys2Proof.Machine
end

