-- ==== Sys2Proof/Machine/ZoneRequests.lean ====
section
/-! DEFINITION. The requests of the Luminance Resolver and the Zone Drive Engine (chapters 01 and 05). -/

namespace Sys2Proof.Machine

/-! ### Zone records (R88 to R91) -/

/-- ZONE_READ (R88). -/
def execZoneRead (p : Port) (s : State) : Host.Outcome State Fault Refusal :=
  .next <| s.serveRead p rowZoneRead fun r t =>
    match r.zone 0 with
    | none => bare .range
    | some z =>
      let c := t.drive.zones.get z
      okData <| be1 z.val ++ c.record.bytes ++ be2 c.phase ++ flagByte c.supplyEnable ++
        be1 t.drive.baseFrequency.code ++ be1 t.drive.edgeMode.code ++ be1 t.drive.swapMode.code ++
        flagByte t.drive.syncLost

/-- The buffered output mode of an operator mode (R89, R100). -/
def modeOf : OperatorMode → OutputMode
  | .on => .pwm
  | .off => .off

/-- The channel at the serving that installs its zone (R89). -/
def Channel.install (c : Channel) (rec : ZoneRecord) (operator : OperatorMode) (killed : Bool) : Channel :=
  { c with
    record := rec, phase := rec.phase, polarity := rec.polarity, activeMode := .off, bufferedMode := modeOf operator
    activeDuty := 0, dutyBuffer := 0, acc := 0, swapPending := true, armed := false, firstPeriod := true
    hold := killed, supplyEnable := true }

/-- The channel at the serving that uninstalls its zone: the compare in force stays until the next period end (R90). -/
def Channel.uninstall (c : Channel) (rec : ZoneRecord) : Channel :=
  { c with
    record := rec, phase := rec.phase, activeMode := .float, bufferedMode := .float, activeDuty := 0, dutyBuffer := 0
    acc := 0, swapPending := false, armed := false, firstPeriod := false, hold := false, supplyEnable := false }

/-- What an uninstallation clears outside the engine: the Resolver's state (R24), the Monitor's (R117) and the zone's Fault
Table entries (R120); a conversion of the zone in progress is discarded (R107). -/
def State.clearZone (s : State) (z : Zone) : State :=
  let r := s.resolver.get z
  let t := s.withResolver
    (s.resolver.set z
      { r with present := 0, target := 0, ceiling := 0, reason := .none, duty := 0, fromZero := false })
  let u := t.modMonitor z fun m => { m with window := .idle, lockout := false, latest := none }
  let v := u.withMonitor
    { u.monitor with
      scan := u.monitor.scan.map fun c => if c.zone = z then { c with discarded := true } else c }
  v.withRecorder { v.recorder with table := v.recorder.table.set z emptyEntries }

/-- The effects of a zone record that ZONE_SETUP stores (R89 to R91). A zone installed before and after keeps its phase and
polarity in force until its next period end; a zone uninstalled before and after takes the record alone. -/
def State.setZoneRecord (s : State) (z : Zone) (rec : ZoneRecord) : State :=
  match s.installed z, rec.installed with
  | false, true =>
    s.modChannel z fun c => c.install rec (s.resolver.get z).operator (s.authority.killFor z)
  | true, false => (s.modChannel z fun c => c.uninstall rec).clearZone z
  | _, _ => s.modChannel z fun c => { c with record := rec }

/-- ZONE_SETUP (R88). -/
def execZoneSetup (p : Port) (s : State) : Host.Outcome State Fault Refusal :=
  .next <| s.serve p rowZoneSetup fun r t =>
    match r.zone 0, ZoneClass.ofCode (r.u1 2), Polarity.ofZoneCode (r.u1 3) with
    | some z, some cls, some polarity =>
      (t.setZoneRecord z
        { installed := r.flag 1, cls, polarity, lmax := clamp 100 Config.levelMax (r.u2 4)
          minOn := clamp 0 63 (r.u1 6), phase := clamp 0 4095 (r.u2 7) }, bare .ok)
    | _, _, _ => (t, bare .range)

/-! ### Gains, operator modes, levels (R7, R25, R100) -/

/-- GAIN_READ (R7). -/
def execGainRead (p : Port) (s : State) : Host.Outcome State Fault Refusal :=
  .next <| s.serveRead p rowGainRead fun _ t => okData (allZones.flatMap fun z => be2 (t.resolver.get z).gain)

/-- GAIN_WRITE (R7). -/
def execGainWrite (p : Port) (s : State) : Host.Outcome State Fault Refusal :=
  .next <| s.serve p rowGainWrite fun r t =>
    if r.mask 0 = 0 then (t, bare .range)
    else
      (t.withResolver (t.resolver.mapIdx fun z x =>
        if inMask (r.mask 0) z then { x with gain := clamp 0 256 (r.u2 2) } else x), bare .ok)

/-- The effects of ZONE_MODE on the zones of a mask (R100). -/
def State.setOperator (s : State) (mask : ZoneMask) (m : OperatorMode) : State :=
  (s.withResolver (s.resolver.mapIdx fun z x => if inMask mask z then { x with operator := m } else x)).withDrive
    { s.drive with
      zones := s.drive.zones.mapIdx fun z c =>
        if c.record.installed && inMask mask z then { c with bufferedMode := modeOf m, swapPending := true } else c }

/-- ZONE_MODE (R100). -/
def execZoneMode (p : Port) (s : State) : Host.Outcome State Fault Refusal :=
  .next <| s.serve p rowZoneMode fun r t =>
    match OperatorMode.ofCode (r.u1 2) with
    | none => (t, bare .range)
    | some m => if r.mask 0 = 0 then (t, bare .range) else (t.setOperator (r.mask 0) m, bare .ok)

/-- LEVEL_READ (R25). -/
def execLevelRead (p : Port) (s : State) : Host.Outcome State Fault Refusal :=
  .next <| s.serveRead p rowLevelRead fun r t =>
    match r.zone 0 with
    | none => bare .range
    | some z =>
      let x := t.resolver.get z
      let c := t.drive.zones.get z
      okData <| be1 z.val ++ be2 x.present ++ be2 x.target ++ be2 x.ceiling ++ be1 x.reason.code ++
        be2 c.dutyBuffer ++ be2 c.activeDuty ++ be2 c.compare ++ be1 c.acc ++ be1 c.effective.code

/-! ### Drive timing (R87, R97, R98) -/

/-- The effects of DRIVE_SETUP (R98): armed flags cleared at a change of swap mode; a sync-lost condition ends on a change to
AUTO or DISABLED, and the watch starts afresh on entering FRAME with an enabled edge mode (R97). -/
def State.setDriveTiming (s : State) (f : BaseFrequency) (e : EdgeMode) (m : SwapMode) : State :=
  let zones :=
    if m = s.drive.swapMode then s.drive.zones else s.drive.zones.mapIdx fun _ c => { c with armed := false }
  let d : Drive := { s.drive with baseFrequency := f, edgeMode := e, swapMode := m, zones }
  let watch := if !s.drive.watching && d.watching then 0 else s.drive.syncWatch
  let t := s.withDrive { d with syncWatch := watch }
  if d.watching then t else t.endSyncLost

/-- DRIVE_SETUP (R98). -/
def execDriveSetup (p : Port) (s : State) : Host.Outcome State Fault Refusal :=
  .next <| s.serve p rowDriveSetup fun r t =>
    match BaseFrequency.ofCode (r.u1 0), EdgeMode.ofCode (r.u1 1), SwapMode.ofCode (r.u1 2) with
    | some f, some e, some m => (t.setDriveTiming f e m, bare .ok)
    | _, _, _ => (t, bare .range)

end Sys2Proof.Machine
end

