-- ==== Sys2Proof/Machine/Dispatch.lean ====
section
/-! DEFINITION. One arm per command: the call of its meaning. -/

namespace Sys2Proof.Machine

def exec (i : Instr) (s : State) : Host.Outcome State Fault Refusal :=
  match i with
  | .resolveExpiry => Sys2Proof.Machine.execResolveExpiry s
  | .gateCompletion edges0 edges1 edges2 => Sys2Proof.Machine.execGateCompletion edges0 edges1 edges2 s
  | .secondRollover => Sys2Proof.Machine.execSecondRollover s
  | .timebaseFailure prescaler => Sys2Proof.Machine.execTimebaseFailure prescaler s
  | .timebaseFirstEdge => Sys2Proof.Machine.execTimebaseFirstEdge s
  | .uptimeSecond batteryMv batteryFirst => Sys2Proof.Machine.execUptimeSecond batteryMv batteryFirst s
  | .overrideExpired => Sys2Proof.Machine.execOverrideExpired s
  | .presenceTimeout => Sys2Proof.Machine.execPresenceTimeout s
  | .periodEnd z => Sys2Proof.Machine.execPeriodEnd z s
  | .countClockSwitch => Sys2Proof.Machine.execCountClockSwitch s
  | .samplePoint z pt current => Sys2Proof.Machine.execSamplePoint z pt current s
  | .conversionCompletion code => Sys2Proof.Machine.execConversionCompletion code s
  | .eblankActiveEdge => Sys2Proof.Machine.execEblankActiveEdge s
  | .eblankInactiveEdge => Sys2Proof.Machine.execEblankInactiveEdge s
  | .killStartUpTake high => Sys2Proof.Machine.execKillStartUpTake high s
  | .syncEvent high => Sys2Proof.Machine.execSyncEvent high s
  | .syncWatchExpiry => Sys2Proof.Machine.execSyncWatchExpiry s
  | .requestTaken w => Sys2Proof.Machine.execRequestTaken w s
  | .responseRead p addr => Sys2Proof.Machine.execResponseRead p addr s
  | .unknownCode p => Sys2Proof.Machine.execUnknownCode p s
  | .status p => Sys2Proof.Machine.execStatus p s
  | .clockRead p => Sys2Proof.Machine.execClockRead p s
  | .clockSet p => Sys2Proof.Machine.execClockSet p s
  | .epochRead p => Sys2Proof.Machine.execEpochRead p s
  | .epochWrite p => Sys2Proof.Machine.execEpochWrite p s
  | .epochErase p => Sys2Proof.Machine.execEpochErase p s
  | .curveRead p => Sys2Proof.Machine.execCurveRead p s
  | .curveWrite p => Sys2Proof.Machine.execCurveWrite p s
  | .sensorRead p => Sys2Proof.Machine.execSensorRead p s
  | .sensorSetup p => Sys2Proof.Machine.execSensorSetup p s
  | .zoneRead p => Sys2Proof.Machine.execZoneRead p s
  | .zoneSetup p => Sys2Proof.Machine.execZoneSetup p s
  | .gainRead p => Sys2Proof.Machine.execGainRead p s
  | .gainWrite p => Sys2Proof.Machine.execGainWrite p s
  | .zoneMode p => Sys2Proof.Machine.execZoneMode p s
  | .levelRead p => Sys2Proof.Machine.execLevelRead p s
  | .ovrPush p => Sys2Proof.Machine.execOvrPush p s
  | .ovrRemove p => Sys2Proof.Machine.execOvrRemove p s
  | .ovrClear p => Sys2Proof.Machine.execOvrClear p s
  | .ovrList p => Sys2Proof.Machine.execOvrList p s
  | .killSetup p => Sys2Proof.Machine.execKillSetup p s
  | .killRelease p => Sys2Proof.Machine.execKillRelease p s
  | .authSetup p => Sys2Proof.Machine.execAuthSetup p s
  | .authRead p => Sys2Proof.Machine.execAuthRead p s
  | .grantSet p => Sys2Proof.Machine.execGrantSet p s
  | .grantRead p => Sys2Proof.Machine.execGrantRead p s
  | .faultSetup p => Sys2Proof.Machine.execFaultSetup p s
  | .faultRead p => Sys2Proof.Machine.execFaultRead p s
  | .zoneRearm p => Sys2Proof.Machine.execZoneRearm p s
  | .journalRead p => Sys2Proof.Machine.execJournalRead p s
  | .attnRead p => Sys2Proof.Machine.execAttnRead p s
  | .attnMask p => Sys2Proof.Machine.execAttnMask p s
  | .driveSetup p => Sys2Proof.Machine.execDriveSetup p s
  | .deviceReset p => Sys2Proof.Machine.execDeviceReset p s
  | .brownOut => Sys2Proof.Machine.execBrownOut s
  | .mainSupplyRise => Sys2Proof.Machine.execMainSupplyRise s
  | .resetNAssert => Sys2Proof.Machine.execResetNAssert s
  | .resetNRelease => Sys2Proof.Machine.execResetNRelease s
  | .mainResetEnd strapA strapO => Sys2Proof.Machine.execMainResetEnd strapA strapO s
  | .retentionLoss => Sys2Proof.Machine.execRetentionLoss s
  | .writeAddress p addr => Sys2Proof.Machine.execWriteAddress p addr s
  | .dataByte p b => Sys2Proof.Machine.execDataByte p b s
  | .fsyncLevelTaken high => Sys2Proof.Machine.execFsyncLevelTaken high s
  | .backupStorageDisturbance index contents => Sys2Proof.Machine.execBackupStorageDisturbance index contents s

end Sys2Proof.Machine
end

