-- ==== Sys2Proof/Safety.lean ====
section
/-! DEFINITION. What the statements are said in: the laws that hold between commands, each under the rules that give it, and
the words for a request served and for records appended. Every law is decidable. -/

namespace Sys2Proof.Machine

/-! ### Words for what a command does -/

/-- The other port. -/
def otherPort : Port → Port
  | .a => .o
  | .o => .a

/-- The request `r`, with the code of the row, is in service on port `p` while the main domain runs (R132). -/
abbrev InService (s : State) (p : Port) (row : CatalogueRow) (r : Request) : Prop :=
  s.supply.inReset = false ∧ s.store.serving = some p ∧ (s.ports.get p).slot = some r ∧ r.code = row.code

/-- The port may make the requests of the row by the Grant Map as it stands (R134). -/
abbrev MayMake (s : State) (p : Port) (row : CatalogueRow) : Prop :=
  match row.access with
  | .either => True
  | .owner q => p = q
  | .group g => p = s.store.grants.holder g

/-- The request is in service and passes the first three checks of R148: it comes to its own rule. -/
abbrev Admitted (s : State) (p : Port) (row : CatalogueRow) (r : Request) : Prop :=
  InService s p row r ∧ r.count = row.argBytes ∧ MayMake s p row

/-- The service of port `p` completed with a response: its slot is empty, its response written, the rest of both ports kept, and
the other port's request selected where one waits (R132, R133). -/
abbrev Answered (s t : State) (p : Port) (resp : Response) : Prop :=
  t.ports = s.ports.set p { s.ports.get p with slot := none, response := resp } ∧
    t.store.serving = (if (s.ports.get (otherPort p)).slot.isSome then some (otherPort p) else none)

/-- A state with the changes that a service's completion makes to the ports and to the Table Store's selection undone, so that
what is left is the request's own effect. -/
abbrev ownEffect (s t : State) : State :=
  { t with ports := s.ports, store := { t.store with serving := s.store.serving } }

/-- A request of port `p` answered a status without data and changed nothing. -/
abbrev Refused (s t : State) (p : Port) (st : Status) : Prop := Answered s t p ⟨st, []⟩ ∧ ownEffect s t = s

/-- A request of the row with the right count of bytes, served from a port without the right, answers DENIED and changes nothing
(R134). -/
abbrev DeniedWithoutRight (c : Port → Instr) (row : CatalogueRow) : Prop :=
  ∀ (s : State) (p : Port) (r : Request), InService s p row r → r.count = row.argBytes → ¬MayMake s p row →
    ∃ t, exec (c p) s = .next t ∧ Refused s t p .denied

/-! ### Codes in numbers (R150, R151, 09 "Status codes", R156) -/

/-- Override kinds (R150). -/
def overrideKindCodes : List (OverrideKind × Nat) := [(.cap, 1), (.blank, 2), (.force, 3)]

/-- Zone classes (R150). -/
def zoneClassCodes : List (ZoneClass × Nat) := [(.commercial, 0), (.authority, 1)]

/-- Zone polarities (R150). -/
def zonePolarityCodes : List (Polarity × Nat) := [(.activeHigh, 0), (.activeLow, 1)]

/-- Kill polarities (R150). -/
def killPolarityCodes : List (Polarity × Nat) := [(.activeLow, 0), (.activeHigh, 1)]

/-- Kill modes (R150). -/
def killModeCodes : List (KillMode × Nat) := [(.level, 0), (.latch, 1)]

/-- Grant holders: AUTHORITY, the A-port, and OPERATOR, the O-port (R150). -/
def holderCodes : List (Port × Nat) := [(.a, 0), (.o, 1)]

/-- Fault reactions (R150). -/
def reactionCodes : List (Reaction × Nat) := [(.none, 0), (.dim, 1), (.off, 2)]

/-- Base frequencies (R150). -/
def frequencyCodes : List (BaseFrequency × Nat) := [(.hz600, 0), (.hz1200, 1), (.hz2400, 2), (.hz4800, 3)]

/-- FSYNC edge modes (R150). -/
def edgeModeCodes : List (EdgeMode × Nat) := [(.disabled, 0), (.rising, 1), (.falling, 2), (.both, 3)]

/-- Swap modes (R150). -/
def swapModeCodes : List (SwapMode × Nat) := [(.auto, 0), (.frame, 1)]

/-- Modes (R150). -/
def modeCodes : List (Mode × Nat) := [(.normal, 0), (.failsafe, 1)]

/-- Ceiling reasons (R150). -/
def ceilingReasonCodes : List (CeilingReason × Nat) :=
  [(.none, 0), (.schedule, 1), (.failsafe, 2), (.cap, 3), (.force, 4), (.thermal, 5), (.fault, 6), (.physical, 7)]

/-- Effective modes (R150). -/
def effectiveModeCodes : List (EffectiveMode × Nat) := [(.pwm, 0), (.off, 1), (.float, 2), (.inactive, 3)]

/-- Sensor reasons (R150). -/
def sensorReasonCodes : List (SensorReason × Nat) :=
  [(.none, 0), (.disabled, 1), (.saturated, 2), (.stuck, 3), (.noSample, 4)]

/-- Reset causes (R150). -/
def resetCauseCodes : List (ResetCause × Nat) := [(.power, 1), (.pin, 2), (.request, 3), (.totalLoss, 4)]

/-- Journal kinds (R150). -/
def journalKindCodes : List (JournalKind × Nat) :=
  [(.zoneFault .openString, 1), (.zoneFault .shortString, 2), (.zoneFault .stuckOn, 3), (.zoneFault .overtemp, 4),
    (.zoneFault .thermFault, 5), (.sensorInvalid, 6), (.syncLost, 7), (.kill, 8), (.clockInvalid, 9), (.failsafe, 10),
    (.batteryLow, 11), (.tableParity, 12), (.backupLost, 13)]

/-- Journal transitions (R150). -/
def transitionCodes : List (Transition × Nat) := [(.raised, 1), (.cleared, 2), (.event, 3)]

/-- Attention causes, by rank (R150, R156). -/
def causeCodes : List (Cause × Nat) :=
  [(.kill, 1), (.failsafe, 2), (.schedule, 3), (.clock, 4), (.journal, 5), (.overrideExpired, 6), (.grant, 7), (.grade, 8),
    (.battery, 9)]

/-- Status bytes (09 "Status codes"). -/
def statusCodes : List (Status × Nat) :=
  [(.ok, 0x00), (.pending, 0x01), (.denied, 0x02), (.range, 0x03), (.length, 0x04), (.unknown, 0x05), (.full, 0x06),
    (.notFound, 0x07), (.badCurve, 0x08), (.noClock, 0x09), (.active, 0x0A), (.none, 0x0B)]

/-- The codes by which the requests name their enumerated fields are those of R150. -/
abbrev RequestCodesAreTabled : Prop :=
  (∀ x : OverrideKind, (x, x.code) ∈ overrideKindCodes) ∧ (∀ x : ZoneClass, (x, x.code) ∈ zoneClassCodes) ∧
    (∀ x : Polarity, (x, x.zoneCode) ∈ zonePolarityCodes ∧ (x, x.killCode) ∈ killPolarityCodes) ∧
    (∀ x : KillMode, (x, x.code) ∈ killModeCodes) ∧ (∀ x : Port, (x, holderCode x) ∈ holderCodes) ∧
    (∀ x : Reaction, (x, x.code) ∈ reactionCodes) ∧ (∀ x : BaseFrequency, (x, x.code) ∈ frequencyCodes) ∧
    (∀ x : EdgeMode, (x, x.code) ∈ edgeModeCodes) ∧ ∀ x : SwapMode, (x, x.code) ∈ swapModeCodes

/-- The request catalogue: code, write access and count of argument bytes of every request (R151). -/
abbrev CatalogueIsTabled : Prop :=
  rowStatus = ⟨0x01, .either, 0⟩ ∧ rowClockRead = ⟨0x02, .either, 0⟩ ∧ rowClockSet = ⟨0x03, .group .clock, 6⟩ ∧
    rowEpochRead = ⟨0x04, .either, 1⟩ ∧ rowEpochWrite = ⟨0x05, .owner .a, 14⟩ ∧ rowEpochErase = ⟨0x06, .owner .a, 1⟩ ∧
    rowCurveRead = ⟨0x07, .either, 0⟩ ∧ rowCurveWrite = ⟨0x08, .group .curve, 45⟩ ∧ rowSensorRead = ⟨0x09, .either, 0⟩ ∧
    rowSensorSetup = ⟨0x0A, .group .curve, 10⟩ ∧ rowZoneRead = ⟨0x0B, .either, 1⟩ ∧
    rowZoneSetup = ⟨0x0C, .group .zoneSetup, 9⟩ ∧ rowGainRead = ⟨0x0D, .either, 0⟩ ∧
    rowGainWrite = ⟨0x0E, .owner .o, 4⟩ ∧ rowZoneMode = ⟨0x0F, .owner .o, 3⟩ ∧ rowLevelRead = ⟨0x10, .either, 1⟩ ∧
    rowOvrPush = ⟨0x11, .owner .a, 9⟩ ∧ rowOvrRemove = ⟨0x12, .owner .a, 1⟩ ∧ rowOvrClear = ⟨0x13, .owner .a, 0⟩ ∧
    rowOvrList = ⟨0x14, .either, 0⟩ ∧ rowKillSetup = ⟨0x15, .owner .a, 4⟩ ∧ rowKillRelease = ⟨0x16, .owner .a, 0⟩ ∧
    rowAuthSetup = ⟨0x17, .owner .a, 16⟩ ∧ rowAuthRead = ⟨0x18, .either, 0⟩ ∧ rowGrantSet = ⟨0x19, .owner .a, 5⟩ ∧
    rowGrantRead = ⟨0x1A, .either, 0⟩ ∧ rowFaultSetup = ⟨0x1B, .group .faultSetup, 9⟩ ∧
    rowFaultRead = ⟨0x1C, .either, 1⟩ ∧ rowZoneRearm = ⟨0x1D, .group .faultSetup, 1⟩ ∧
    rowJournalRead = ⟨0x1E, .either, 0⟩ ∧ rowAttnRead = ⟨0x1F, .either, 0⟩ ∧ rowAttnMask = ⟨0x20, .either, 2⟩ ∧
    rowDriveSetup = ⟨0x21, .group .driveTiming, 3⟩ ∧ rowDeviceReset = ⟨0x22, .owner .a, 0⟩

/-- The device-condition record as its weights give it (R154). -/
def conditionWeights (c : Conditions) : Nat :=
  c.sensorInvalid.e0.toNat + 2 * c.sensorInvalid.e1.toNat + 4 * c.sensorInvalid.e2.toNat + 8 * c.syncLost.toNat +
    16 * c.kill.toNat + 32 * c.clockInvalid.toNat + 64 * c.failsafe.toNat + 128 * c.batteryLow.toNat +
    256 * c.backupLost.toNat

/-! ### Records -/

/-- A list of records appended one after another. -/
def Recorder.appendAll (r : Recorder) (xs : List JournalRecord) : Recorder := xs.foldl Recorder.append r

/-- The device's record of a kind, transition and detail under a timestamp. -/
def deviceRecord (at_ : Timestamp) (k : JournalKind) (t : Transition) (detail : Nat) : JournalRecord :=
  ⟨at_, ⟨.device, k, t, detail⟩⟩

/-- The zone's record of a fault kind, transition and detail under a timestamp. -/
def zoneRecord (at_ : Timestamp) (z : Zone) (k : FaultKind) (t : Transition) (detail : Nat) : JournalRecord :=
  ⟨at_, ⟨.zone z, .zoneFault k, t, detail⟩⟩

/-- The number that `n` bytes of a response carry from place `i` on, most significant byte first (R150). -/
def fieldAt (d : List Byte) (i : Nat) : Nat → Nat
  | 0 => 0
  | n + 1 => fieldAt d i n * 256 + (d.getD (i + n) 0).toNat

/-- A timestamp, or the marker that none is held, stands in seven bytes from place `i` on: the form marker, then the six calendar
fields, or two zeros and the uptime counter, or six zeros (R153). A number wider than its field stands there by its low bytes. -/
def StampAt (d : List Byte) (i : Nat) : Option Timestamp → Prop
  | some (.civil t) =>
    fieldAt d i 1 = 0 ∧ fieldAt d (i + 1) 1 = (t.year - 2000) % 256 ∧ fieldAt d (i + 2) 1 = t.month % 256 ∧
      fieldAt d (i + 3) 1 = t.day % 256 ∧ fieldAt d (i + 4) 1 = t.hour % 256 ∧ fieldAt d (i + 5) 1 = t.minute % 256 ∧
      fieldAt d (i + 6) 1 = t.second % 256
  | some (.uptime n) => fieldAt d i 1 = 1 ∧ fieldAt d (i + 1) 2 = 0 ∧ fieldAt d (i + 3) 4 = n % 4294967296
  | none => fieldAt d i 1 = 0xFF ∧ fieldAt d (i + 1) 6 = 0

/-- A journal record stands in twelve bytes from place `i` on: timestamp, source, kind, transition, detail (R153). -/
def RecordAt (d : List Byte) (i : Nat) (x : JournalRecord) : Prop :=
  StampAt d i (some x.stamp) ∧
    fieldAt d (i + 7) 1 = (match x.report.source with
      | .zone z => z.val
      | .device => 0xFF) ∧
    (x.report.kind, fieldAt d (i + 8) 1) ∈ journalKindCodes ∧
    (x.report.transition, fieldAt d (i + 9) 1) ∈ transitionCodes ∧
    fieldAt d (i + 10) 2 = x.report.detail % 65536

/-- The sampled EBLANK level has been taken and is active under the polarity (R77, R81). -/
abbrev EblankActive (a : Authority) : Prop := a.eblank = some (decide (a.kill.polarity = .activeHigh))

/-- The kill is in force (R78). -/
abbrev KillInForce (a : Authority) : Prop :=
  a.kill.mode = .level ∧ EblankActive a ∨ a.kill.mode = .latch ∧ a.latch = true

/-- The kill is in force for a zone (R78). -/
abbrev KillCovers (a : Authority) (z : Zone) : Prop := KillInForce a ∧ a.kill.mask.getLsbD z.val = true

/-- The conversion that follows that of a zone in a scan: that of the next installed zone, or none after the last (R107). -/
abbrev ScanGoesOn (s : State) (z : Zone) (next : Option Scan) : Prop :=
  (next = none ↔ ∀ y, z < y → s.installed y = false) ∧
    ∀ c, next = some c →
      c.discarded = false ∧ z < c.zone ∧ s.installed c.zone = true ∧ ∀ y, z < y → y < c.zone → s.installed y = false

/-- The entries that an evaluation has to report: in use, failing parity, not yet reported, lowest index first (R62). -/
def parityDue (s : State) : List (Fin 24) :=
  allEntries.filter fun i =>
    (s.clock.epochs.get i).fields.inUse && !(s.clock.epochs.get i).passes && !(s.clock.epochs.get i).reported

/-- `t` is `s` after one epoch evaluation (R60, R62): the active epoch record is formed afresh, and with the clock valid and no
main reset under way every entry that is due is reported and marked. -/
abbrev Evaluated (s t : State) : Prop :=
  let reports : Bool := s.clock.valid && !s.supply.inReset
  t = { s with clock := t.clock, recorder := t.recorder } ∧
    t.clock = { s.clock with epochs := t.clock.epochs, active := t.clock.active } ∧
    t.clock.active = (if s.clock.valid then evaluateTable s.clock.time s.clock.epochs else none) ∧
    (∀ i : Fin 24, t.clock.epochs.get i =
      { s.clock.epochs.get i with
        reported := (s.clock.epochs.get i).reported || (reports && decide (i ∈ parityDue s)) }) ∧
    t.recorder = s.recorder.appendAll
      (if reports then (parityDue s).map fun i => deviceRecord (.civil s.clock.time) .tableParity .event i.val else [])

/-- An override entry covers a zone with a kind (R8, R10, R17). -/
abbrev Covers (e : Override) (k : OverrideKind) (z : Zone) : Prop := e.kind = k ∧ e.mask.getLsbD z.val = true

/-- The schedule is valid (R63). -/
abbrev ScheduleValid (s : State) : Prop := s.clock.valid = true ∧ s.clock.active ≠ none

/-- The limits in force for an installed zone at a resolve expiry, with their values and names (R9 to R14). -/
inductive LimitInForce (s : State) (z : Zone) : Limit → Prop where
  /-- R9: FAILSAFE mode or no valid schedule, for an ordinary zone. -/
  | failsafe (ordinary : ∀ e ∈ s.authority.stack, ¬Covers e .force z)
      (h : s.authority.mode = .failsafe ∨ ¬ScheduleValid s) :
      LimitInForce s z
        ⟨match (s.drive.zones.get z).record.cls with
          | .commercial => s.authority.settings.failsafeCommercial
          | .authority => s.authority.settings.failsafeAuthority, .failsafe⟩
  /-- R9: the active epoch's ceiling for the class of an ordinary zone, 0 for a COMMERCIAL zone under DARK. -/
  | schedule (ordinary : ∀ e ∈ s.authority.stack, ¬Covers e .force z) (a : ActiveEpoch)
      (mode : s.authority.mode = .normal) (valid : s.clock.valid = true) (active : s.clock.active = some a) :
      LimitInForce s z
        ⟨match (s.drive.zones.get z).record.cls with
          | .commercial => if a.dark then 0 else a.commercial
          | .authority => a.authority, .schedule⟩
  /-- R10: the least level among the CAP entries that cover an ordinary zone. -/
  | cap (ordinary : ∀ e ∈ s.authority.stack, ¬Covers e .force z) (c : Override) (mem : c ∈ s.authority.stack)
      (covers : Covers c .cap z) (least : ∀ e ∈ s.authority.stack, Covers e .cap z → c.level ≤ e.level) :
      LimitInForce s z ⟨c.level, .cap⟩
  /-- R8, R14: the level of the chosen FORCE, the newest of those of the highest priority. -/
  | force (older newer : List Override) (f : Override) (stack : s.authority.stack = older ++ f :: newer)
      (covers : Covers f .force z) (high : ∀ e ∈ older, Covers e .force z → e.priority ≤ f.priority)
      (newest : ∀ e ∈ newer, Covers e .force z → e.priority < f.priority) :
      LimitInForce s z ⟨f.level, .force⟩
  /-- R11: THERM_FAULT asserted. -/
  | thermFault (h : (s.entry z .thermFault).asserted = true) :
      LimitInForce s z ⟨(s.drive.zones.get z).record.lmax / 2, .thermal⟩
  /-- R11: between the knee and the cut. -/
  | thermalRange (h : (s.entry z .thermFault).asserted = false) (c : Conversion)
      (latest : (s.monitor.zones.get z).latest = some c) (above : s.authority.settings.knee < c.celsius)
      (below : c.celsius < s.authority.settings.cut) (v : Nat)
      (value : (v : Int) = ((s.drive.zones.get z).record.lmax : Int) * (s.authority.settings.cut - c.celsius) /
        (s.authority.settings.cut - s.authority.settings.knee)) :
      LimitInForce s z ⟨v, .thermal⟩
  /-- R11: at or above the cut. -/
  | thermalCut (h : (s.entry z .thermFault).asserted = false) (c : Conversion)
      (latest : (s.monitor.zones.get z).latest = some c) (above : s.authority.settings.knee < c.celsius)
      (cut : s.authority.settings.cut ≤ c.celsius) : LimitInForce s z ⟨0, .thermal⟩
  /-- R12: OPEN or SHORT asserted with reaction DIM. -/
  | fault (h : (s.entry z .openString).asserted = true ∧ (s.monitor.zones.get z).openReaction = .dim ∨
        (s.entry z .shortString).asserted = true ∧ (s.monitor.zones.get z).shortReaction = .dim) :
      LimitInForce s z ⟨(s.drive.zones.get z).record.lmax / 2, .fault⟩
  /-- R13, R14: the physical limit. -/
  | physical : LimitInForce s z ⟨(s.drive.zones.get z).record.lmax, .physical⟩

/-- The port on whose bus or for whose request a command acts, none for every other command. -/
def actsOn : Instr → Option Port
  | .requestTaken (.one p) | .writeAddress p _ | .dataByte p _ | .responseRead p _ | .unknownCode p => some p
  | .status p | .clockRead p | .clockSet p | .epochRead p | .epochWrite p | .epochErase p | .curveRead p | .curveWrite p
  | .sensorRead p | .sensorSetup p | .zoneRead p | .zoneSetup p | .gainRead p | .gainWrite p | .zoneMode p
  | .levelRead p | .ovrPush p | .ovrRemove p | .ovrClear p | .ovrList p | .killSetup p | .killRelease p | .authSetup p
  | .authRead p | .grantSet p | .grantRead p | .faultSetup p | .faultRead p | .zoneRearm p | .journalRead p
  | .attnRead p | .attnMask p | .driveSetup p | .deviceReset p => some p
  | .requestTaken .both | .resolveExpiry | .gateCompletion _ _ _ | .secondRollover | .timebaseFailure _
  | .timebaseFirstEdge | .uptimeSecond _ _ | .overrideExpired | .presenceTimeout | .periodEnd _ | .countClockSwitch
  | .samplePoint _ _ _ | .conversionCompletion _ | .eblankActiveEdge | .eblankInactiveEdge | .killStartUpTake _
  | .syncEvent _ | .syncWatchExpiry | .brownOut | .mainSupplyRise | .resetNAssert | .resetNRelease | .mainResetEnd _ _
  | .retentionLoss | .fsyncLevelTaken _ | .backupStorageDisturbance _ _ => none

/-- The request catalogue as commands: the row of a command that serves a request, with the port it serves (R151). -/
def requestOf : Instr → Option (CatalogueRow × Port)
  | .status p => some (rowStatus, p)
  | .clockRead p => some (rowClockRead, p)
  | .clockSet p => some (rowClockSet, p)
  | .epochRead p => some (rowEpochRead, p)
  | .epochWrite p => some (rowEpochWrite, p)
  | .epochErase p => some (rowEpochErase, p)
  | .curveRead p => some (rowCurveRead, p)
  | .curveWrite p => some (rowCurveWrite, p)
  | .sensorRead p => some (rowSensorRead, p)
  | .sensorSetup p => some (rowSensorSetup, p)
  | .zoneRead p => some (rowZoneRead, p)
  | .zoneSetup p => some (rowZoneSetup, p)
  | .gainRead p => some (rowGainRead, p)
  | .gainWrite p => some (rowGainWrite, p)
  | .zoneMode p => some (rowZoneMode, p)
  | .levelRead p => some (rowLevelRead, p)
  | .ovrPush p => some (rowOvrPush, p)
  | .ovrRemove p => some (rowOvrRemove, p)
  | .ovrClear p => some (rowOvrClear, p)
  | .ovrList p => some (rowOvrList, p)
  | .killSetup p => some (rowKillSetup, p)
  | .killRelease p => some (rowKillRelease, p)
  | .authSetup p => some (rowAuthSetup, p)
  | .authRead p => some (rowAuthRead, p)
  | .grantSet p => some (rowGrantSet, p)
  | .grantRead p => some (rowGrantRead, p)
  | .faultSetup p => some (rowFaultSetup, p)
  | .faultRead p => some (rowFaultRead, p)
  | .zoneRearm p => some (rowZoneRearm, p)
  | .journalRead p => some (rowJournalRead, p)
  | .attnRead p => some (rowAttnRead, p)
  | .attnMask p => some (rowAttnMask, p)
  | .driveSetup p => some (rowDriveSetup, p)
  | .deviceReset p => some (rowDeviceReset, p)
  | .resolveExpiry | .gateCompletion _ _ _ | .secondRollover | .timebaseFailure _ | .timebaseFirstEdge
  | .uptimeSecond _ _ | .overrideExpired | .presenceTimeout | .periodEnd _ | .countClockSwitch | .samplePoint _ _ _
  | .conversionCompletion _ | .eblankActiveEdge | .eblankInactiveEdge | .killStartUpTake _ | .syncEvent _
  | .syncWatchExpiry | .requestTaken _ | .responseRead _ _ | .unknownCode _ | .brownOut | .mainSupplyRise
  | .resetNAssert | .resetNRelease | .mainResetEnd _ _ | .retentionLoss | .writeAddress _ _ | .dataByte _ _
  | .fsyncLevelTaken _ | .backupStorageDisturbance _ _ => none

/-! ### Laws -/

/-- The journal holds at most 48 records, each unread count at most the records held (R131), each missed count stops at 255
(R127). -/
abbrev JournalLaw (s : State) : Prop :=
  s.recorder.journal.length ≤ 48 ∧ s.recorder.unread.a ≤ s.recorder.journal.length ∧
    s.recorder.unread.o ≤ s.recorder.journal.length ∧ s.recorder.missed.a ≤ 255 ∧ s.recorder.missed.o ≤ 255

/-- Q lies in 2 to 15 (R103); every count in 0 to Q, asserted at Q, not asserted at 0 (R118). -/
abbrev QualificationLaw (s : State) : Prop :=
  2 ≤ s.monitor.limit ∧ s.monitor.limit ≤ 15 ∧
    ∀ z : Zone, ∀ k ∈ allKinds,
      (s.entry z k).count ≤ s.monitor.limit ∧
        ((s.entry z k).count = s.monitor.limit → (s.entry z k).asserted = true) ∧
        ((s.entry z k).count = 0 → (s.entry z k).asserted = false)

/-- At most 8 entries, no two with the same id, each with a nonzero zone mask (R73). -/
abbrev StackLaw (s : State) : Prop :=
  s.authority.stack.length ≤ 8 ∧ (s.authority.stack.map Override.id).Nodup ∧
    ∀ e ∈ s.authority.stack, e.mask ≠ 0

/-- Every compare in 0 to 4096, every dither accumulator in 0 to 15 (R102). -/
abbrev CompareLaw (s : State) : Prop :=
  ∀ z : Zone, (s.drive.zones.get z).compare ≤ 4096 ∧ (s.drive.zones.get z).acc ≤ 15

/-- A list of points has strictly increasing breakpoints and non-decreasing levels. -/
abbrev Ordered (l : List CurvePoint) : Prop := l.Pairwise fun p q => p.b < q.b ∧ p.l ≤ q.l

/-- The curve's breakpoints strictly increase and lie in 0 to 120000, its levels never fall and lie in 0 to 12000 (R43). -/
abbrev CurveLaw (c : PointBank CurvePoint) : Prop :=
  Ordered c.toList ∧ ∀ p ∈ c.toList, p.b ≤ 120000 ∧ p.l ≤ 12000

/-- The ranges of a sensor setup (R27). -/
abbrev SetupLaw (e : EstimatorSetup) : Prop :=
  (∀ i : Fin 3, 1 ≤ (e.sensors.get i).scale ∧ (e.sensors.get i).scale ≤ 65535) ∧ 1 ≤ e.alpha ∧ e.alpha ≤ 16

/-- The Ambient Estimator's ranges (R27), the working setup equal to the staged one while none is pending (R44), E_f in its
range once set, the grade 0 exactly when no sensor is valid, and before the first gate completion every sensor NOSAMPLE and
the grade 0 (R40). -/
abbrev AmbientLaw (s : State) : Prop :=
  SetupLaw s.ambient.staged ∧ SetupLaw s.ambient.working ∧
    (s.ambient.setupPending = false → s.ambient.working = s.ambient.staged) ∧
    (∀ i : Fin 3, (s.ambient.sensors.get i).count ≤ 262143 ∧ (s.ambient.sensors.get i).lux ≤ 120000 ∧
      (s.ambient.sensors.get i).stuck ≤ 600) ∧
    s.ambient.fused ≤ 120000 ∧ s.ambient.filtered.getD 0 ≤ 120000 ∧ s.ambient.spike ≤ 2 ∧ s.ambient.grade ≤ 2 ∧
    (s.ambient.grade = 0 ↔ ∀ i : Fin 3, (s.ambient.sensors.get i).reason ≠ .none) ∧
    (s.ambient.filtered = none → s.ambient.grade = 0 ∧ ∀ i : Fin 3, (s.ambient.sensors.get i).reason = .noSample)

/-- The ranges of an Epoch Table entry's fields (R55). -/
abbrev EpochInRange (f : EpochFields) : Prop :=
  f.months ≠ 0 ∧ f.weekdays ≠ 0 ∧ f.start < 1440 ∧ f.commercial ≤ 12000 ∧ f.authority ≤ 12000 ∧ f.fallback ≤ 120000

/-- The clock holds a date and time of the calendar and a prescaler below 32768 (R45); a failed timebase leaves the clock
invalid (R49 to R52), an invalid clock no active epoch (R60); every entry is within its ranges (R55, R57), and so is the active epoch
record (R60). -/
abbrev ScheduleLaw (s : State) : Prop :=
  s.clock.time.valid = true ∧ s.clock.prescaler < 32768 ∧ (s.clock.failed = true → s.clock.valid = false) ∧
    (s.clock.valid = false → s.clock.active = none) ∧
    (∀ i : Fin 24, EpochInRange (s.clock.epochs.get i).fields) ∧
    ∀ e ∈ s.clock.active, e.commercial ≤ 12000 ∧ e.authority ≤ 12000 ∧ e.fallback ≤ 120000

/-- The ranges of the Authority settings record, with Tc above Tk (R82). -/
abbrev SettingsLaw (a : AuthSettings) : Prop :=
  a.failsafeCommercial ≤ 12000 ∧ a.failsafeAuthority ≤ 12000 ∧ (a.window = 0 ∨ 10 ≤ a.window ∧ a.window ≤ 3600) ∧
    1 ≤ a.upAbs ∧ a.upAbs ≤ 1000 ∧ a.upRel ≤ 255 ∧ 1 ≤ a.downAbs ∧ a.downAbs ≤ 1000 ∧ a.downRel ≤ 255 ∧
    -40 ≤ a.knee ∧ a.knee ≤ 150 ∧ -35 ≤ a.cut ∧ a.cut ≤ 149 ∧ a.knee < a.cut

/-- The Presence Timer under a window: DISABLED exactly under a window of 0, else at most the window (R74). -/
abbrev PresenceLaw (window : Nat) (p : Presence) : Prop :=
  (p = .disabled ↔ window = 0) ∧ (p ≠ .disabled → p.wire ≤ window)

/-- The ranges of an override entry (R66); between commands none stands at 0 seconds (log 7). -/
abbrev Override.InRange (e : Override) : Prop :=
  1 ≤ e.id ∧ e.id ≤ 255 ∧ e.level ≤ 12000 ∧ e.priority ≤ 3 ∧ e.remaining.wire ≤ 65535 ∧ e.remaining ≠ .seconds 0

/-- Authority Control: the settings' ranges (R82), the entries' (R66), the timer's (R74), the origin RESET in NORMAL (R65), a
clear latch in LEVEL mode (R78), and between commands no timer run out in NORMAL (R75; log 7). -/
abbrev AuthorityLaw (s : State) : Prop :=
  SettingsLaw s.authority.settings ∧ (∀ e ∈ s.authority.stack, e.InRange) ∧
    PresenceLaw s.authority.settings.window s.authority.presence ∧
    (s.authority.mode = .normal → s.authority.origin = .reset ∧ s.authority.presence ≠ .seconds 0) ∧
    (s.authority.kill.mode = .level → s.authority.latch = false)

/-- The ranges of a zone's record and channel (R85, R88). -/
abbrev Channel.InRange (c : Channel) : Prop :=
  100 ≤ c.record.lmax ∧ c.record.lmax ≤ 12000 ∧ c.record.minOn ≤ 63 ∧ c.record.phase ≤ 4095 ∧ c.phase ≤ 4095 ∧
    c.activeDuty ≤ 65535 ∧ c.dutyBuffer ≤ 65535

/-- The ranges of what the Resolver holds for a zone, with P and T at most C (R2, R16, R22). -/
abbrev ResolverZone.InRange (r : ResolverZone) : Prop :=
  r.ceiling ≤ 12000 ∧ r.present ≤ r.ceiling ∧ r.target ≤ r.ceiling ∧ r.duty ≤ 65535 ∧ r.gain ≤ 256

/-- The choices of the reactions, the order of the thresholds and the agreement of temperature and code (R103, R108). -/
abbrev MonitorZone.InRange (m : MonitorZone) : Prop :=
  m.openThreshold < m.shortThreshold ∧ m.shortThreshold ≤ 255 ∧ m.openReaction ≠ .off ∧ m.shortReaction ≠ .none ∧
    m.stuckReaction ≠ .dim ∧ m.overtempReaction ≠ .dim ∧
    ∀ c ∈ m.latest, c.code ≤ 1023 ∧ c.celsius = ((c.code * 190 / 1023 : Nat) : Int) - 40

/-- The ranges of every zone in the Resolver, the engine and the Monitor, and of the shared count (R2, R85, R86, R103). -/
abbrev ZoneRangeLaw (s : State) : Prop :=
  s.drive.sharedCount ≤ 4095 ∧
    ∀ z : Zone, (s.resolver.get z).InRange ∧ (s.drive.zones.get z).InRange ∧ (s.monitor.zones.get z).InRange

/-- An uninstalled zone: it floats with nothing pending, no duty, no hold (R90), no level (R24), no lockout, window or
temperature (R117), and empty Fault Table entries (R120). -/
abbrev UninstalledLaw (s : State) (z : Zone) : Prop :=
  let c := s.drive.zones.get z
  let r := s.resolver.get z
  let m := s.monitor.zones.get z
  c.activeMode = .float ∧ c.bufferedMode = .float ∧ c.activeDuty = 0 ∧ c.dutyBuffer = 0 ∧ c.acc = 0 ∧
    c.swapPending = false ∧ c.armed = false ∧ c.firstPeriod = false ∧ c.hold = false ∧
    r.present = 0 ∧ r.target = 0 ∧ r.ceiling = 0 ∧ r.reason = .none ∧ r.duty = 0 ∧
    m.lockout = false ∧ m.window = .idle ∧ m.latest = none ∧ ∀ k ∈ allKinds, s.entry z k = ⟨0, false, 0, none⟩

/-- The outputs: an uninstalled zone is as `UninstalledLaw` says and no installed zone floats (R94); the supply enable is high
exactly while the zone is installed and not locked out, and low in a main reset (R101, R165); a locked-out zone and an
installed zone under the kill have their force hold set (R99), a locked-out zone an IDLE window (R113). -/
abbrev OutputLaw (s : State) : Prop :=
  ∀ z : Zone,
    (s.installed z = false → UninstalledLaw s z) ∧
      (s.installed z = true →
        (s.drive.zones.get z).activeMode ≠ .float ∧ (s.drive.zones.get z).bufferedMode ≠ .float ∧
          (s.authority.killFor z = true → (s.drive.zones.get z).hold = true)) ∧
      (s.drive.zones.get z).supplyEnable = (!s.supply.inReset && s.installed z && !s.lockedOut z) ∧
      (s.lockedOut z = true → (s.drive.zones.get z).hold = true ∧ (s.monitor.zones.get z).window = .idle)

/-- A source of a main reset that holds keeps the main reset under way (R163). -/
abbrev SourceLaw (s : State) : Prop :=
  s.supply.supplyLow = true ∨ s.supply.pinLow = true → s.supply.inReset = true

/-- Each device condition agrees with the block that owns it (R122), and a sync-lost condition holds only in FRAME with an edge
mode other than DISABLED (R97). -/
abbrev ConditionsLaw (s : State) : Prop :=
  let c := s.recorder.conditions
  (∀ i : Fin 3, c.sensorInvalid.get i =
      decide ((s.ambient.sensors.get i).reason = .saturated ∨ (s.ambient.sensors.get i).reason = .stuck)) ∧
    c.syncLost = s.drive.syncLost ∧ c.kill = s.authority.killInForce ∧ c.clockInvalid = !s.clock.valid ∧
    c.failsafe = decide (s.authority.mode = .failsafe) ∧
    c.batteryLow = (s.supply.battery.any fun n => decide (n ≤ 1)) ∧ c.backupLost = s.supply.backupLost ∧
    (s.drive.syncLost = true → s.drive.swapMode = .frame ∧ s.drive.edgeMode ≠ .disabled)

/-- The stored bytes of a write are at most 48, its count stops at 255 and agrees with them up to 48 (R144, R146). -/
abbrev BytesLaw (args : List Byte) (count : Nat) : Prop := args.length = min 48 count ∧ count ≤ 255

/-- The bounds of a receive state: no argument before the code, then `BytesLaw` (R144, R146). -/
def Receive.bounded : Receive → Bool
  | .idle => true
  | .receiving none args n => args.isEmpty && decide (n = 0)
  | .receiving (some _) args n => decide (BytesLaw args n)

/-- One port: a full slot is answered PENDING and receives nothing (R133, R145, R147); stored bytes within their bounds (R144,
R146); a response of at most 80 data bytes (R144). -/
abbrev PortLaw (l : LinkPort) : Prop :=
  (∀ r ∈ l.slot, l.response = ⟨.pending, []⟩ ∧ l.receive = .idle ∧ BytesLaw r.args r.count) ∧
    l.receive.bounded = true ∧
    l.response.data.length ≤ 80

/-- The Table Store and the ports: it serves a port whose slot is full, it is IDLE exactly when both slots are empty (R132), and
in a main reset nothing is served, received or waiting (R142, R149). -/
abbrev LinkLaw (s : State) : Prop :=
  PortLaw s.ports.a ∧ PortLaw s.ports.o ∧ (∀ p ∈ s.store.serving, (s.ports.get p).slot.isSome = true) ∧
    (s.store.serving = none → s.ports.a.slot = none ∧ s.ports.o.slot = none) ∧
    (s.supply.inReset = true → s.store.serving = none ∧ s.ports.a.receive = .idle ∧ s.ports.o.receive = .idle)

end Sys2Proof.Machine
end

