-- ==== Sys2Proof/Certificates/Slice0/Obligations.lean ====
section
/-! DEFINITION. The statements for the provers, in the order of OBLIGATIONS.json: the machine as a whole, the laws every step
keeps, then the blocks' events, the link and the requests. -/

section

open Sys2Proof Sys2Proof.Machine

/-! ### The machine as a whole -/

/-- The queue is first in, first out, and an empty queue idles: the model's choice, log 1. -/
def Obligations.StepExecutesTheFrontCommand : Prop :=
  (∀ (s : State) (c : Instr) (rest : List Instr), s.pending = c :: rest → step s = exec c { s with pending := rest }) ∧
    ∀ s : State, s.pending = [] → step s = .next s

/-- No command stops the machine, and none, a reset among them, reads or changes the queue, which is the model's own: the model's
choice, log 28. In a state in which the spec says a command's event does not arise it completes with nothing changed: the
model's choice, log 2. -/
def Obligations.EveryCommandCompletesAndLeavesTheQueue : Prop :=
  ∀ (c : Instr) (s : State), ∃ t, exec c s = .next t ∧
    ∀ q, exec c { s with pending := q } = .next { t with pending := q }

/-- Every law holds in the state after reset. The straps, the source recorded last and the fields without a reset value are the
model's choice, log 15. -/
def Obligations.LawsHoldAtReset : Prop :=
  JournalLaw .reset ∧ QualificationLaw .reset ∧ StackLaw .reset ∧ CompareLaw .reset ∧
    CurveLaw State.reset.ambient.curve ∧ AmbientLaw .reset ∧ ScheduleLaw .reset ∧ AuthorityLaw .reset ∧
    ZoneRangeLaw .reset ∧ OutputLaw .reset ∧ ConditionsLaw .reset ∧ LinkLaw .reset ∧ SourceLaw .reset

/-! ### Laws every step keeps -/

/-- R131, clause by clause: the law itself, an append below 48 and at 48, a JOURNAL_READ, and the journal that a main reset
leaves before the start-up records of R130. -/
def Obligations.JournalAndUnreadCountsStayBounded : Prop :=
  (∀ s t, JournalLaw s → step s = .next t → JournalLaw t) ∧
    (∀ (r : Recorder) (x : JournalRecord), r.journal.length < 48 →
      (r.append x).journal.length = r.journal.length + 1 ∧ ∀ p, (r.append x).unread.get p = r.unread.get p + 1) ∧
    (∀ (r : Recorder) (x : JournalRecord), r.journal.length = 48 →
      (r.append x).journal.length = 48 ∧
        ∀ p, (r.unread.get p < 48 → (r.append x).unread.get p = r.unread.get p + 1) ∧
          (r.unread.get p = 48 → (r.append x).unread.get p = 48)) ∧
    (∀ s t p q, exec (.journalRead p) s = .next t →
      t.recorder.journal = s.recorder.journal ∧ t.recorder.unread.get q ≤ s.recorder.unread.get q) ∧
    ∀ (s : State) (lost : Bool) (a o : Fin 4),
      (s.resetMain lost a o).recorder.journal = [] ∧ (s.resetMain lost a o).recorder.unread = ⟨0, 0⟩

/-- R118, sentence by sentence: the law; the state a main reset leaves; the step of R110; a change of Q; ZONE_REARM and an
uninstallation; and that no outcome steps a count of a locked-out zone. -/
def Obligations.QualificationCountsAgreeWithAsserts : Prop :=
  (∀ s t, QualificationLaw s → step s = .next t → QualificationLaw t) ∧
    (∀ (s : State) (z : Zone) (k : FaultKind) (o : SampleOutcome) (detail : Nat), QualificationLaw s →
      let before := s.entry z k
      let now := (s.qualify z k o detail).entry z k
      now.count ≤ s.monitor.limit ∧
        (before.asserted = false → (now.asserted = true ↔ now.count = s.monitor.limit)) ∧
        (before.asserted = true → (now.asserted = false ↔ now.count = 0))) ∧
    (∀ s t p z k, exec (.faultSetup p) s = .next t → t.monitor.limit ≠ s.monitor.limit →
      (t.entry z k).asserted = (s.entry z k).asserted ∧
        (t.entry z k).count = if (s.entry z k).asserted then t.monitor.limit else 0) ∧
    (∀ s t p r (z : Zone) k, Admitted s p rowZoneRearm r → r.u1 0 = z.val → s.installed z = true →
      exec (.zoneRearm p) s = .next t → (t.entry z k).count = 0 ∧ (t.entry z k).asserted = false) ∧
    (∀ c s t z k, exec c s = .next t → s.installed z = true → t.installed z = false →
      (t.entry z k).count = 0 ∧ (t.entry z k).asserted = false) ∧
    (∀ s t a o, s.supply.inReset = true → s.supply.supplyLow = false → s.supply.pinLow = false →
      exec (.mainResetEnd a o) s = .next t →
      ∀ z k, (t.entry z k).count = 0 ∧ (t.entry z k).asserted = false) ∧
    (∀ s t z pt current, s.lockedOut z = true → exec (.samplePoint z pt current) s = .next t →
      t.recorder = s.recorder) ∧
    ∀ s t code c, s.monitor.scan = some c → s.lockedOut c.zone = true →
      exec (.conversionCompletion code) s = .next t → t.recorder = s.recorder

/-- R73: the law, the stack a main reset leaves, and how the stack can grow: only by an OVR_PUSH, by one entry with a nonzero
mask and id, after any entry of that id is gone and where at most seven stay. -/
def Obligations.OverrideStackStaysWellFormed : Prop :=
  (∀ s t, StackLaw s → step s = .next t → StackLaw t) ∧
    (∀ s t a o, s.supply.inReset = true → s.supply.supplyLow = false → s.supply.pinLow = false →
      exec (.mainResetEnd a o) s = .next t → t.authority.stack = []) ∧
    ∀ c s t, StackLaw s → exec c s = .next t →
      (t.authority.stack.map Override.id).Sublist (s.authority.stack.map Override.id) ∨
        ∃ p e stay, c = .ovrPush p ∧ t.authority.stack = stay ++ [e] ∧ stay.Sublist s.authority.stack ∧
          stay.length ≤ 7 ∧ e.id ∉ stay.map Override.id ∧ e.id ≠ 0 ∧ e.mask ≠ 0

/-- R102: the law; that a zone's compare changes only at that zone's period end or at a main reset; and where compare and
accumulator become 0 or are kept: a phase change, an uninstalled zone, an uninstallation, a main reset. -/
def Obligations.CompareStaysInRangeAndChangesAtPeriodEnds : Prop :=
  (∀ s t, ZoneRangeLaw s → CompareLaw s → step s = .next t → CompareLaw t) ∧
    (∀ c s t z, exec c s = .next t → (t.drive.zones.get z).compare ≠ (s.drive.zones.get z).compare →
      c = .periodEnd z ∨ ∃ a o, c = .mainResetEnd a o) ∧
    (∀ s t z, s.supply.inReset = false → exec (.periodEnd z) s = .next t →
      (s.installed z = false → (t.drive.zones.get z).compare = 0) ∧
        (s.installed z = true → (s.drive.zones.get z).record.phase ≠ (s.drive.zones.get z).phase →
          (t.drive.zones.get z).compare = 0 ∧ (t.drive.zones.get z).acc = (s.drive.zones.get z).acc)) ∧
    (∀ c s t z, exec c s = .next t → s.installed z = true → t.installed z = false → (t.drive.zones.get z).acc = 0) ∧
    ∀ s t a o z, s.supply.inReset = true → s.supply.supplyLow = false → s.supply.pinLow = false →
      exec (.mainResetEnd a o) s = .next t → (t.drive.zones.get z).compare = 0 ∧ (t.drive.zones.get z).acc = 0

/-- R43: the law, the default curve that a main reset sets, and what CURVE_WRITE stores. -/
def Obligations.AmbientCurveStaysOrderedAndInRange : Prop :=
  (∀ s t, CurveLaw s.ambient.curve → step s = .next t → CurveLaw t.ambient.curve) ∧ CurveLaw defaultCurve ∧
    (∀ s t a o, s.supply.inReset = true → s.supply.supplyLow = false → s.supply.pinLow = false →
      exec (.mainResetEnd a o) s = .next t → t.ambient.curve = defaultCurve) ∧
    ∀ s t p, exec (.curveWrite p) s = .next t →
      t.ambient.curve = s.ambient.curve ∨ CurveLaw t.ambient.curve

/-- R40: the law; E_f unset with every sensor NOSAMPLE and the grade 0 after a main reset; E_f set by a gate completion, which
also grades; and how E_f changes: set to F at the first gate completion, later kept or moved by the filter step, unset at the
end of a main reset. -/
def Obligations.FilteredAmbientAndGradeKeepTheirLaw : Prop :=
  (∀ s t, ScheduleLaw s → AmbientLaw s → step s = .next t → AmbientLaw t) ∧
    (∀ s t a o, s.supply.inReset = true → s.supply.supplyLow = false → s.supply.pinLow = false →
      exec (.mainResetEnd a o) s = .next t →
      t.ambient.filtered = none ∧ t.ambient.grade = 0 ∧ ∀ i : Fin 3, (t.ambient.sensors.get i).reason = .noSample) ∧
    (∀ s t e0 e1 e2, s.supply.inReset = false → exec (.gateCompletion e0 e1 e2) s = .next t →
      t.ambient.filtered.isSome = true ∧
        if ∃ i : Fin 3, (t.ambient.sensors.get i).reason = .none then t.ambient.grade = 1 ∨ t.ambient.grade = 2
        else t.ambient.grade = 0) ∧
    ∀ c s t, exec c s = .next t → t.ambient.filtered ≠ s.ambient.filtered →
      (∃ e0 e1 e2, c = .gateCompletion e0 e1 e2 ∧
        t.ambient.filtered = some (match s.ambient.filtered with
          | none => t.ambient.fused
          | some e => filterStep t.ambient.working.alpha e t.ambient.fused)) ∨
        ((∃ a o, c = .mainResetEnd a o) ∧ t.ambient.filtered = none)

/-- The Civil Clock and Schedule Unit keeps its ranges and conditions (R45, R49, R50, R55, R60). That a disturbance leaves every
field at one of the values of R55 is the model's reading, log 9. -/
def Obligations.ClockAndScheduleKeepTheirLaw : Prop :=
  ∀ s t, ScheduleLaw s → step s = .next t → ScheduleLaw t

/-- Authority Control keeps its ranges and conditions (R65, R66, R74, R78, R82). That no run-out or expired entry waits between
commands follows from the model's reading of the uptime second, log 7. -/
def Obligations.AuthorityControlKeepsItsLaw : Prop :=
  ∀ s t, AuthorityLaw s → step s = .next t → AuthorityLaw t

/-- The ranges of every zone's state (R2, R85, R88, R103). -/
def Obligations.ZoneRangesAreKept : Prop :=
  ∀ s t, ZoneRangeLaw s → step s = .next t → ZoneRangeLaw t

/-- R101 with the rules its outputs rest on: R94 (no installed zone floats, every uninstalled one does), R99 (the force hold),
R113 and R117 (lockout). -/
def Obligations.SupplyEnablesHoldsAndModesFollowTheZones : Prop :=
  ∀ s t, OutputLaw s → step s = .next t → OutputLaw t

/-- The device-condition record follows its owners (R122). -/
def Obligations.DeviceConditionsFollowTheirOwners : Prop :=
  ∀ s t, ConditionsLaw s → step s = .next t → ConditionsLaw t

/-- The ports and the Table Store (R132, R133, R142, R144, R146, R147). -/
def Obligations.PortsAndTableStoreKeepTheirLaw : Prop :=
  ∀ s t, StackLaw s → LinkLaw s → step s = .next t → LinkLaw t

/-- R143: what a request of the O-port, from its first byte to its serving, can change: no Authority-only table, but for the
parity-reported markers of the Epoch Table, which the evaluation of an O-port CLOCK_SET sets under an O-held CLOCK (R62); no table
of a group whose grant the authority holds (of FAULT_SETUP also no count, assert or lockout of a zone that the request does not
uninstall, R135), and, where the authority holds every group, only the gains and operator modes with the
buffered modes and swap-pending flags, the O-port's own journal counts, causes and mask, and the link itself. -/
def Obligations.OperatorPortChangesNoTableOfTheAuthority : Prop :=
  ∀ c s t, actsOn c = some .o → exec c s = .next t →
    (t.clock.epochs = s.clock.epochs ∨ s.store.grants.clock = .o) ∧ t.authority = s.authority ∧
      t.store.grants = s.store.grants ∧ t.supply = s.supply ∧ t.ports.a = s.ports.a ∧
      (∀ i, (t.clock.epochs.get i).fields = (s.clock.epochs.get i).fields ∧
        (t.clock.epochs.get i).parity = (s.clock.epochs.get i).parity) ∧
      (s.store.grants.clock = .a → t.clock = s.clock) ∧
      (s.store.grants.curve = .a → t.ambient = s.ambient) ∧
      (s.store.grants.zoneSetup = .a → ∀ z, (t.drive.zones.get z).record = (s.drive.zones.get z).record) ∧
      (s.store.grants.faultSetup = .a → t.monitor.limit = s.monitor.limit ∧ ∀ z,
        (t.monitor.zones.get z).openThreshold = (s.monitor.zones.get z).openThreshold ∧
          (t.monitor.zones.get z).shortThreshold = (s.monitor.zones.get z).shortThreshold ∧
          (∀ k, (t.monitor.zones.get z).reaction k = (s.monitor.zones.get z).reaction k) ∧
          (s.installed z = false ∨ t.installed z = true →
            (t.monitor.zones.get z).lockout = (s.monitor.zones.get z).lockout ∧ ∀ k, t.entry z k = s.entry z k)) ∧
      (s.store.grants.driveTiming = .a → t.drive.baseFrequency = s.drive.baseFrequency ∧
        t.drive.edgeMode = s.drive.edgeMode ∧ t.drive.swapMode = s.drive.swapMode) ∧
      ((∀ g, s.store.grants.holder g = .a) →
        ownEffect s t =
            { s with
              resolver := t.resolver, drive := { s.drive with zones := t.drive.zones }
              recorder :=
                { s.recorder with
                  unread := ⟨s.recorder.unread.a, t.recorder.unread.o⟩
                  missed := ⟨s.recorder.missed.a, t.recorder.missed.o⟩ }
              attention :=
                { s.attention with
                  mask := ⟨s.attention.mask.a, t.attention.mask.o⟩
                  grade := ⟨s.attention.grade.a, t.attention.grade.o⟩, grant := t.attention.grant } } ∧
          ∀ z,
            t.resolver.get z =
                { s.resolver.get z with gain := (t.resolver.get z).gain, operator := (t.resolver.get z).operator } ∧
              t.drive.zones.get z =
                { s.drive.zones.get z with
                  bufferedMode := (t.drive.zones.get z).bufferedMode
                  swapPending := (t.drive.zones.get z).swapPending })

/-! ### The Luminance Resolver -/

/-- Stage 1 at any ambient value over any curve that keeps its law (R5), and what ambient value a state gives it (R3, R4). -/
def Obligations.CurveLuminanceFollowsTheLines : Prop :=
  (∀ c : PointBank CurvePoint, CurveLaw c →
    (∀ e, e ≤ c.e0.b → curveAt c.toList e = c.e0.l) ∧ (∀ e, c.e8.b ≤ e → curveAt c.toList e = c.e8.l) ∧
      (∀ (i j : Fin 9) (e : Nat), j.val = i.val + 1 → (c.get i).b ≤ e → e < (c.get j).b →
        curveAt c.toList e =
          (c.get i).l + (e - (c.get i).b) * ((c.get j).l - (c.get i).l) / ((c.get j).b - (c.get i).b)) ∧
      (∀ e e', e ≤ e' → curveAt c.toList e ≤ curveAt c.toList e') ∧ ∀ e, curveAt c.toList e ≤ 12000) ∧
    ∀ s : State,
      (∀ e, s.ambient.filtered = some e → s.curveLuminance = curveAt s.ambient.curve.toList e) ∧
        (∀ a, s.ambient.filtered = none → s.clock.valid = true → s.clock.active = some a →
          s.curveLuminance = curveAt s.ambient.curve.toList a.fallback) ∧
        (s.ambient.filtered = none → ¬ScheduleValid s → s.curveLuminance = curveAt s.ambient.curve.toList 400)

/-- The chosen FORCE of a zone (R8). -/
def Obligations.ChosenForceIsTheNewestOfTheHighestPriority : Prop :=
  ∀ (stack : List Override) (z : Zone),
    (chosenForce stack z = none ↔ ∀ e ∈ stack, ¬Covers e .force z) ∧
      ∀ f, chosenForce stack z = some f ↔
        ∃ older newer, stack = older ++ f :: newer ∧ Covers f .force z ∧
          (∀ e ∈ older, Covers e .force z → e.priority ≤ f.priority) ∧
          ∀ e ∈ newer, Covers e .force z → e.priority < f.priority

/-- The ceiling recorded at a resolve expiry is the least limit in force, and its reason names the first of equal ones (R9 to
R15). -/
def Obligations.CeilingIsTheLeastLimitInForce : Prop :=
  ∀ (s : State) (z : Zone), s.supply.inReset = false → s.installed z = true →
    ∃ t, exec .resolveExpiry s = .next t ∧
      LimitInForce s z ⟨(t.resolver.get z).ceiling, (t.resolver.get z).reason⟩ ∧
      ∀ l, LimitInForce s z l →
        (t.resolver.get z).ceiling ≤ l.value ∧
          (l.value = (t.resolver.get z).ceiling → (t.resolver.get z).reason.code ≤ l.reason.code)

/-- A resolve expiry: Stages 2 and 4 to 6 for every installed zone over the ceiling it records, with the duty buffer and
swap-pending (R1, R6, R16 to R21), from P_z, or from 0 where a lockout of the zone ended since the last expiry (R116; the mark of
it is the model's own field, log 30), the up-step halved while E_f is unset or the grade is 0 (R4, R19), the blanking of zones
that the kill is in force for (R17, R78), nothing of an uninstalled zone (R24), the windows (R104), and the scan with its scan Tc
(R107). -/
def Obligations.ResolveExpiryResolvesEveryInstalledZone : Prop :=
  ∀ s : State, s.supply.inReset = false →
    ∃ t, exec .resolveExpiry s = .next t ∧
      t = { s with
        resolver := t.resolver, drive := { s.drive with zones := t.drive.zones }
        monitor :=
          { s.monitor with
            zones := t.monitor.zones, scanCut := s.authority.settings.cut, scan := t.monitor.scan } } ∧
      (∀ z, s.authority.killFor z = true ↔ KillCovers s.authority z) ∧
      (∀ z, s.installed z = false →
        t.resolver.get z = s.resolver.get z ∧ t.drive.zones.get z = s.drive.zones.get z) ∧
      (∀ z, s.installed z = true →
        let a := s.authority.settings
        let r := s.resolver.get z
        let c := (t.resolver.get z).ceiling
        let target := (t.resolver.get z).target
        let before := if r.fromZero then 0 else r.present
        let up := max a.upAbs (before * a.upRel / 256)
        let u := if s.ambient.filtered = none ∨ s.ambient.grade = 0 then max 1 (up / 2) else up
        let d := max a.downAbs (before * a.downRel / 256)
        let blanked := (∃ e ∈ s.authority.stack, Covers e .blank z) ∨ KillCovers s.authority z ∨
          s.lockedOut z = true ∨ r.operator = .off
        let forced := ∃ e ∈ s.authority.stack, Covers e .force z
        (forced → target = c) ∧
          (¬forced → target = min (if r.operator = .on then s.curveLuminance * r.gain / 256 else 0) c) ∧
          (blanked → (t.resolver.get z).present = 0) ∧
          (¬blanked → c < before → (t.resolver.get z).present = c) ∧
          (¬blanked → before ≤ c → forced → (t.resolver.get z).present = target) ∧
          (¬blanked → before ≤ c → ¬forced → before < target →
            (t.resolver.get z).present = min target (before + u)) ∧
          (¬blanked → before ≤ c → ¬forced → target < before →
            (t.resolver.get z).present = max target (before - d)) ∧
          (¬blanked → before ≤ c → ¬forced → target = before → (t.resolver.get z).present = before) ∧
          t.resolver.get z =
            { r with
              present := (t.resolver.get z).present, target, ceiling := c, reason := (t.resolver.get z).reason
              duty := min 65535 ((t.resolver.get z).present * 65536 / (s.drive.zones.get z).record.lmax)
              fromZero := false } ∧
          t.drive.zones.get z =
            { s.drive.zones.get z with dutyBuffer := (t.resolver.get z).duty, swapPending := true }) ∧
      (∀ z, t.monitor.zones.get z =
        { s.monitor.zones.get z with
          window := if s.installed z = true ∧ s.lockedOut z = false then .waiting else .idle }) ∧
      (t.monitor.scan = none ↔ ∀ z, s.installed z = false) ∧
      ∀ c, t.monitor.scan = some c →
        c.discarded = false ∧ s.installed c.zone = true ∧ ∀ y, y < c.zone → s.installed y = false

/-- R22 at every resolve expiry, with its cases: P at most C and at most Lmax, every duty at most 65535 and at most that of the zone
at its ceiling, duty 0 under a ceiling of 0, and P 0 for an uninstalled zone. A zone whose lockout ended since the last expiry
goes on from 0 (R116, log 30). -/
def Obligations.PresentLevelStaysUnderCeilingAndLmax : Prop :=
  ∀ s t : State, OutputLaw s → s.supply.inReset = false → exec .resolveExpiry s = .next t →
    ∀ z,
      (s.installed z = false → (t.resolver.get z).present = 0) ∧
        (s.installed z = true →
          let r := t.resolver.get z
          let lmax := (s.drive.zones.get z).record.lmax
          let before := if (s.resolver.get z).fromZero then 0 else (s.resolver.get z).present
          let blanked := (∃ e ∈ s.authority.stack, Covers e .blank z) ∨ s.authority.killFor z = true ∨
            s.lockedOut z = true ∨ (s.resolver.get z).operator = .off
          let forced := ∃ e ∈ s.authority.stack, Covers e .force z
          (blanked → r.present = 0) ∧ (¬blanked → r.ceiling < before → r.present = r.ceiling) ∧
            (¬blanked → before ≤ r.ceiling → forced → r.present = r.target ∧ r.target = r.ceiling) ∧
            (¬blanked → before ≤ r.ceiling → ¬forced → before < r.target →
              r.present ≤ r.target ∧ r.target ≤ r.ceiling) ∧
            (¬blanked → before ≤ r.ceiling → ¬forced → r.target ≤ before → r.present ≤ before) ∧
            r.present ≤ r.ceiling ∧ r.ceiling ≤ lmax ∧ r.duty ≤ 65535 ∧
            (t.drive.zones.get z).dutyBuffer = r.duty ∧ r.duty ≤ min 65535 (r.ceiling * 65536 / lmax) ∧
            (r.ceiling = 0 → r.duty = 0))

/-- R23: without a FORCE, a zone resolved in FAILSAFE or without a valid schedule is at most at the failsafe ceiling of its
class, in the duty buffer at once, an uninstalled one at 0. -/
def Obligations.FailsafeCeilingBoundsEveryZoneNotForced : Prop :=
  ∀ s t : State, OutputLaw s → s.supply.inReset = false → exec .resolveExpiry s = .next t →
    s.authority.mode = .failsafe ∨ ¬ScheduleValid s →
    ∀ z, (∀ e ∈ s.authority.stack, ¬Covers e .force z) →
      ((t.resolver.get z).present ≤
        match (s.drive.zones.get z).record.cls with
        | .commercial => s.authority.settings.failsafeCommercial
        | .authority => s.authority.settings.failsafeAuthority) ∧
        (s.installed z = false → (t.resolver.get z).present = 0) ∧
        (s.installed z = true →
          (t.drive.zones.get z).dutyBuffer = (t.resolver.get z).duty ∧ (t.drive.zones.get z).swapPending = true)

/-! ### The Ambient Estimator -/

/-- The filter's step (R38): its value, that it moves E_f toward F without passing it, that α = 16 reaches F at once, and that
F is reached in finitely many completions. -/
def Obligations.FilterMovesTowardTheFusedValue : Prop :=
  ∀ alpha e f : Nat, 1 ≤ alpha → alpha ≤ 16 → e ≤ 120000 → f ≤ 120000 →
    (e < f → filterStep alpha e f = e + max 1 ((f - e) * alpha / 16) ∧ filterStep alpha e f ≤ f) ∧
      (f < e → (filterStep alpha e f : Int) = e + ((f : Int) - e) * alpha / 16 ∧ f ≤ filterStep alpha e f ∧
        filterStep alpha e f < e) ∧
      (e = f → filterStep alpha e f = e) ∧ (alpha = 16 → filterStep alpha e f = f) ∧
      ∃ n, (fun x => filterStep alpha x f)^[n] e = f

/-- Stages 1 to 4 of a gate completion for each sensor (R26, R29 to R32), and what no completion changes. That the edges come as
operands and are added to the counter at the completion is the model's choice, log 29. -/
def Obligations.GateCompletionJudgesEverySensor : Prop :=
  ∀ (s : State) (e0 e1 e2 : Nat), s.supply.inReset = false →
    ∃ t, exec (.gateCompletion e0 e1 e2) s = .next t ∧
      t = { s with ambient := t.ambient, recorder := t.recorder, attention := t.attention } ∧
      t.ambient.staged = s.ambient.staged ∧ t.ambient.curve = s.ambient.curve ∧ t.ambient.setupPending = false ∧
      t.ambient.working = (if s.ambient.setupPending then s.ambient.staged else s.ambient.working) ∧
      ∀ i : Fin 3,
        let setup := t.ambient.working.sensors.get i
        let before := s.ambient.sensors.get i
        let after := t.ambient.sensors.get i
        after.pulses = 0 ∧
          after.count = min 262143 (before.pulses + (SensorBank.mk e0 e1 e2).get i) ∧
          after.lux = (if setup.enable then min 120000 (after.count * setup.scale / 1024) else 0) ∧
          after.stuck =
            (if setup.enable = false ∨ after.count = 0 ∨ after.count = 262143 then 0
            else if after.count = before.count ∧ 0 < before.stuck then min 600 (before.stuck + 1) else 1) ∧
          after.reason =
            (if setup.enable = false then .disabled
            else if after.count = 262143 then .saturated
            else if after.stuck = 600 then .stuck
            else .none)

/-- Fusion, grade, screen and filter of a gate completion (R34 to R37, R39). -/
def Obligations.GateCompletionFusesGradesAndFilters : Prop :=
  ∀ (s : State) (e0 e1 e2 : Nat), s.supply.inReset = false →
    ∃ t, exec (.gateCompletion e0 e1 e2) s = .next t ∧
      let valid := ([t.ambient.sensors.e0, t.ambient.sensors.e1, t.ambient.sensors.e2].filter fun x =>
        decide (x.reason = .none)).map Sensor.lux
      let f := t.ambient.fused
      (∀ x y z, valid = [x, y, z] →
          f ∈ valid ∧ 2 ≤ (valid.filter (· ≤ f)).length ∧ 2 ≤ (valid.filter (f ≤ ·)).length) ∧
        (∀ x y, valid = [x, y] → f = (x + y) / 2) ∧ (∀ x, valid = [x] → f = x) ∧
        (∀ a, valid = [] → s.clock.valid = true → s.clock.active = some a → f = a.fallback) ∧
        (valid = [] → ¬ScheduleValid s → f = 400) ∧
        (t.ambient.grade = 0 ↔ valid = []) ∧
        (t.ambient.grade = 2 ↔ 2 ≤ valid.length ∧ ∀ x ∈ valid, ∀ y ∈ valid, x ≤ y + (f / 4 + 16)) ∧
        t.ambient.grade ≤ 2 ∧
        (s.ambient.filtered = none → t.ambient.filtered = some f ∧ t.ambient.spike = 0) ∧
        ∀ e, s.ambient.filtered = some e →
          (t.ambient.grade ≠ 0 → 4 * e + 64 < f → s.ambient.spike < 2 →
            t.ambient.filtered = some e ∧ t.ambient.spike = s.ambient.spike + 1) ∧
            (t.ambient.grade = 0 ∨ f ≤ 4 * e + 64 ∨ 2 ≤ s.ambient.spike →
              t.ambient.filtered = some (filterStep t.ambient.working.alpha e f) ∧ t.ambient.spike = 0)

/-- What a gate completion reports: SENSOR_INVALID records sensor by sensor with their conditions (R33), and a grade drop, which
latches GRADE on both ports (R35, R156). -/
def Obligations.GateCompletionReportsSensorsAndGradeDrops : Prop :=
  ∀ (s : State) (e0 e1 e2 : Nat), s.supply.inReset = false →
    ∃ t, exec (.gateCompletion e0 e1 e2) s = .next t ∧
      let reported (r : SensorReason) : Bool := decide (r = .saturated ∨ r = .stuck)
      let old (i : Fin 3) := (s.ambient.sensors.get i).reason
      let new (i : Fin 3) := (t.ambient.sensors.get i).reason
      let records (i : Fin 3) : List JournalRecord :=
        (if old i ≠ new i ∧ reported (old i) = true then
          [deviceRecord s.now .sensorInvalid .cleared (i.val * 16 + if old i = .saturated then 2 else 3)] else []) ++
        (if old i ≠ new i ∧ reported (new i) = true then
          [deviceRecord s.now .sensorInvalid .raised (i.val * 16 + if new i = .saturated then 2 else 3)] else [])
      t.recorder =
          ({ s.recorder with
            conditions :=
              { s.recorder.conditions with
                sensorInvalid := .ofFn fun i =>
                  if old i = new i then s.recorder.conditions.sensorInvalid.get i
                  else if reported (new i) then true
                  else if reported (old i) then false
                  else s.recorder.conditions.sensorInvalid.get i } } : Recorder).appendAll
            (records 0 ++ records 1 ++ records 2) ∧
        t.attention =
          (if t.ambient.grade < s.ambient.grade then { s.attention with grade := ⟨true, true⟩ } else s.attention)

/-! ### The Civil Clock and Schedule Unit -/

/-- The calendar (R46, R47, R48): the length of every month and the range of every field in numbers; from every valid time the
next second is valid and one second later, counting the seconds from 2000-01-01 00:00:00 through the day number of R48, but for
the wrap at the end of 2099; weekdays pass in order. -/
def Obligations.CalendarAdvancesBySeconds : Prop :=
  (∀ y m : Nat,
    (m ∈ [1, 3, 5, 7, 8, 10, 12] → monthLength y m = 31) ∧ (m ∈ [4, 6, 9, 11] → monthLength y m = 30) ∧
      (y % 4 = 0 → monthLength y 2 = 29) ∧ (y % 4 ≠ 0 → monthLength y 2 = 28)) ∧
  (∀ t : CivilTime, t.valid = true ↔
    2000 ≤ t.year ∧ t.year ≤ 2099 ∧ 1 ≤ t.month ∧ t.month ≤ 12 ∧ 1 ≤ t.day ∧
      t.day ≤ (if t.month ∈ [4, 6, 9, 11] then 30 else if t.month = 2 then (if t.year % 4 = 0 then 29 else 28) else 31) ∧
      t.hour ≤ 23 ∧ t.minute ≤ 59 ∧ t.second ≤ 59) ∧
  ∀ t : CivilTime, t.valid = true →
    t.nextSecond.valid = true ∧
      (t ≠ ⟨2099, 12, 31, 23, 59, 59⟩ →
        t.nextSecond.dayNumber * 86400 + t.nextSecond.hour * 3600 + t.nextSecond.minute * 60 + t.nextSecond.second =
          t.dayNumber * 86400 + t.hour * 3600 + t.minute * 60 + t.second + 1) ∧
      (t = ⟨2099, 12, 31, 23, 59, 59⟩ → t.nextSecond = ⟨2000, 1, 1, 0, 0, 0⟩) ∧
      (CivilTime.mk 2000 1 1 0 0 0).dayNumber = 0 ∧ t.weekday = (6 + t.dayNumber) % 7

/-- The clock's own events: a second rollover, with an evaluation at a minute rollover taken while the clock is valid (R46, R60);
a timebase failure (R49, R51); the first edge after one (R50). The prescaler that a failure leaves is the command's operand, log
5. -/
def Obligations.ClockEventsMoveTheClock : Prop :=
  (∀ s : State, s.clock.failed = false →
    ∃ t m, exec .secondRollover s = .next t ∧
      m = { s with clock := { s.clock with prescaler := 0, time := s.clock.time.nextSecond } } ∧
      (s.clock.time.second = 59 → s.clock.valid = true → Evaluated m t) ∧
      (s.clock.time.second < 59 ∨ s.clock.valid = false → t = m)) ∧
    (∀ (s : State) (n : Fin 32768), s.supply.inReset = false → s.clock.failed = false →
      exec (.timebaseFailure n) s = .next
        { s with
          clock := { s.clock with failed := true, valid := false, active := none, prescaler := n.val }
          recorder :=
            if s.clock.valid then
              { s.recorder with conditions := { s.recorder.conditions with clockInvalid := true } }.append
                (deviceRecord (.uptime s.supply.uptime) .clockInvalid .raised 0)
            else s.recorder }) ∧
    ∀ s : State, s.clock.failed = true → s.clock.valid = false →
      exec .timebaseFirstEdge s = .next
        { s with
          clock :=
            if s.clock.prescaler + 1 < 32768 then
              { s.clock with failed := false, prescaler := s.clock.prescaler + 1 }
            else { s.clock with failed := false, prescaler := 0, time := s.clock.time.nextSecond } }

/-- The entry an evaluation chooses among those in use that pass parity (R56, R61). Of the parity nothing is known but that it is a
function of the entry's fields, log 9. -/
def Obligations.EvaluationChoosesTheLatestStart : Prop :=
  ∀ (time : CivilTime) (table : EpochBank EpochEntry),
    let takesPart (i : Fin 24) := (table.get i).fields.inUse = true ∧ (table.get i).parity = (table.get i).fields.parity
    let start (i : Fin 24) := (table.get i).fields.start
    let matching (i : Fin 24) (month weekday : Nat) :=
      (table.get i).fields.months.getLsbD (month - 1) = true ∧ (table.get i).fields.weekdays.getLsbD weekday = true
    let today (i : Fin 24) :=
      takesPart i ∧ matching i time.month time.weekday ∧ start i ≤ 60 * time.hour + time.minute
    let lastMonth := if time.day = 1 then (if time.month = 1 then 12 else time.month - 1) else time.month
    let yesterday (i : Fin 24) := takesPart i ∧ matching i lastMonth ((time.weekday + 6) % 7)
    let chosen (from_ : Fin 24 → Prop) :=
      ∃ i, from_ i ∧ (∀ j, from_ j → start j < start i ∨ start j = start i ∧ i ≤ j) ∧
        evaluateTable time table =
          some ⟨i, (table.get i).fields.commercial, (table.get i).fields.authority, (table.get i).fields.fallback,
            (table.get i).fields.dark⟩
    ((∃ i, today i) → chosen today) ∧ ((∀ i, ¬today i) → (∃ i, yesterday i) → chosen yesterday) ∧
      ((∀ i, ¬today i) → (∀ i, ¬yesterday i) → evaluateTable time table = none)

/-- The contents and stored parity of an entry change only by a write, an erase, a disturbance or a main reset's end (R56), so an
entry keeps passing or failing in every other command. What a disturbance leaves is its operand, and whether the entry then
passes is as the fresh parity of its fields says, with its marker kept: log 9. An evaluation skips an entry that fails parity
and reports it once, to be reported again only after its marker is cleared (R62). -/
def Obligations.DamagedEntriesAreSkippedAndReportedOnce : Prop :=
  (∀ (s : State) (i : Fin 24) (c : EpochContents),
    exec (.backupStorageDisturbance i c) s = .next
      { s with
        clock :=
          { s.clock with
            epochs := s.clock.epochs.set i ⟨c.fields, c.parity, (s.clock.epochs.get i).reported⟩ } }) ∧
    (∀ e : EpochEntry, e.passes = true ↔ e.parity = e.fields.parity) ∧
    (∀ c s t i, exec c s = .next t →
      ((t.clock.epochs.get i).fields ≠ (s.clock.epochs.get i).fields ∨
        (t.clock.epochs.get i).parity ≠ (s.clock.epochs.get i).parity) →
      (∃ p, c = .epochWrite p ∨ c = .epochErase p) ∨ (∃ x, c = .backupStorageDisturbance i x) ∨
        ∃ a o, c = .mainResetEnd a o) ∧
    ∀ s : State, Evaluated s s.evaluate ∧
      (∀ a, s.evaluate.clock.active = some a →
        (s.clock.epochs.get a.index).fields.inUse = true ∧
          (s.clock.epochs.get a.index).parity = (s.clock.epochs.get a.index).fields.parity) ∧
      (s.supply.inReset = false → s.evaluate.evaluate.recorder = s.evaluate.recorder)

/-! ### Authority Control and the uptime second -/

/-- An uptime second (R161): the counter, the override countdown with its expiries (R71), the Presence Timer and its run-out
(R74, R75), and the battery measurement (R162). The record's stamp is the advanced counter, log 24; which of two reports comes
first is the operand, log 8; the expiries and the run-out fall within the second, log 7. -/
def Obligations.UptimeSecondCountsDownAndMeasures : Prop :=
  ∀ (s : State) (mv : Nat) (batteryFirst : Bool), s.supply.inReset = false →
    let up := (s.supply.uptime + 1) % 4294967296
    let cls := if mv < 2000 then 0 else if mv < 2200 then 1 else if mv < 2400 then 2 else if mv < 2600 then 3
      else if mv < 2800 then 4 else if mv < 3000 then 5 else if mv ≤ 3200 then 6 else 7
    let measured := up % 60 = 1
    let low : Bool := decide (cls ≤ 1)
    let counted := s.authority.stack.map fun e =>
      { e with
        remaining := match e.remaining with
          | .never => .never
          | .seconds n => .seconds (n - 1) }
    let runsOut := s.authority.presence = .seconds 1 ∧ s.authority.mode = .normal
    let stamp : Timestamp := if s.clock.valid then .civil s.clock.time else .uptime up
    let battery : List JournalRecord :=
      if measured ∧ low ≠ s.recorder.conditions.batteryLow then
        [deviceRecord stamp .batteryLow (if low then .raised else .cleared) cls] else []
    let failsafe : List JournalRecord := if runsOut then [deviceRecord stamp .failsafe .raised 0] else []
    exec (.uptimeSecond mv batteryFirst) s = .next
      { s with
        supply := { s.supply with uptime := up, battery := if measured then some cls else s.supply.battery }
        authority :=
          { s.authority with
            stack := counted.filter fun e => decide (e.remaining ≠ .seconds 0)
            presence := match s.authority.presence with
              | .disabled => .disabled
              | .seconds n => .seconds (n - 1)
            mode := if runsOut then .failsafe else s.authority.mode
            origin := if runsOut then .presence else s.authority.origin }
        attention := match (counted.filter fun e => decide (e.remaining = .seconds 0)).getLast? with
          | none => s.attention
          | some e => { s.attention with overrideExpired := true, lastExpired := e.id }
        recorder :=
          ({ s.recorder with
            conditions :=
              { s.recorder.conditions with
                batteryLow := if measured then low else s.recorder.conditions.batteryLow
                failsafe := if runsOut then true else s.recorder.conditions.failsafe } } : Recorder).appendAll
            (if batteryFirst then battery ++ failsafe else failsafe ++ battery) }

/-- OVERRIDE_EXPIRED and PRESENCE_TIMEOUT as commands of their own, where an entry or the timer stands at 0 (R71, R75). An
uptime second takes them within itself, log 7. -/
def Obligations.ExpiredOverridesLeaveAndSilenceEndsNormal : Prop :=
  (∀ (s : State) (e : Override), s.supply.inReset = false →
    (s.authority.stack.filter fun x => decide (x.remaining = .seconds 0)).getLast? = some e →
    exec .overrideExpired s = .next
      { s with
        authority :=
          { s.authority with
            stack := s.authority.stack.filter fun x => decide (x.remaining ≠ .seconds 0) }
        attention := { s.attention with overrideExpired := true, lastExpired := e.id } }) ∧
    ∀ s : State, s.supply.inReset = false → s.authority.mode = .normal → s.authority.presence = .seconds 0 →
      exec .presenceTimeout s = .next
        { s with
          authority := { s.authority with mode := .failsafe, origin := .presence }
          recorder :=
            { s.recorder with conditions := { s.recorder.conditions with failsafe := true } }.append
              (deviceRecord s.now .failsafe .raised 0) }

/-- The EBLANK edges and the first taking after a main reset (R77, R78, R81): the level, the latch, and where the kill begins or
ends its record, its condition and the force holds. The raw level is the model's own field, log 27. -/
def Obligations.EblankEdgesBeginAndEndTheKill : Prop :=
  (∀ (s : State) (c : Instr) (high : Bool), s.supply.inReset = false →
    (c = .eblankActiveEdge ∧ s.authority.eblank = some (!high) ∨
      c = .killStartUpTake high ∧ s.authority.eblank = none) →
    (high = true ↔ s.authority.kill.polarity = .activeHigh) →
    let begins := s.authority.kill.mode = .level ∨ s.authority.latch = false
    exec c s = .next
      { s with
        authority :=
          { s.authority with
            eblank := some high
            latch := s.authority.latch || decide (s.authority.kill.mode = .latch) }
        drive :=
          { s.drive with
            zones := .ofFn fun z =>
              if begins ∧ s.installed z = true ∧ s.authority.kill.mask.getLsbD z.val = true then
                { s.drive.zones.get z with hold := true }
              else s.drive.zones.get z }
        recorder :=
          if begins then
            { s.recorder with conditions := { s.recorder.conditions with kill := true } }.append
              (deviceRecord s.now .kill .raised s.authority.kill.mask.toNat)
          else s.recorder }) ∧
    (∀ (s : State) (high : Bool), s.supply.inReset = false → s.authority.eblank = some (!high) →
      (high = true ↔ s.authority.kill.polarity = .activeLow) →
      exec .eblankInactiveEdge s = .next
        { s with
          authority := { s.authority with eblank := some high }
          recorder :=
            if s.authority.kill.mode = .level then
              { s.recorder with conditions := { s.recorder.conditions with kill := false } }.append
                (deviceRecord s.now .kill .cleared s.authority.kill.mask.toNat)
            else s.recorder }) ∧
    ∀ (s : State) (high : Bool), s.supply.inReset = false → s.authority.eblank = none →
      (high = true ↔ s.authority.kill.polarity = .activeLow) →
      exec (.killStartUpTake high) s = .next { s with authority := { s.authority with eblank := some high } }

/-! ### The Zone Drive Engine -/

/-- A period end (R86, R90 to R93, R95, R96, R99, R104, R105). -/
def Obligations.PeriodEndFormsTheNextPeriod : Prop :=
  ∀ (s : State) (z : Zone), s.supply.inReset = false →
    let c := s.drive.zones.get z
    let w := (s.monitor.zones.get z).window
    let hold := c.hold && (s.authority.killFor z || s.lockedOut z)
    let auto := s.drive.swapMode = .auto ∨ s.drive.edgeMode = .disabled ∨ s.drive.syncLost = true
    let swap := c.firstPeriod = true ∨ auto ∧ c.swapPending = true ∨ ¬auto ∧ c.armed = true
    let duty := if swap then c.dutyBuffer else c.activeDuty
    let mode := if swap then c.bufferedMode else c.activeMode
    let sum := c.acc + duty % 16
    let raw := if 16 ≤ sum then duty / 16 + 1 else duty / 16
    let compare := if raw < c.record.minOn then 0 else raw
    ∃ t, exec (.periodEnd z) s = .next t ∧
      t = { s with
        drive := { s.drive with zones := s.drive.zones.set z (t.drive.zones.get z), sharedCount := c.phase }
        monitor :=
          { s.monitor with
            zones := s.monitor.zones.set z
              { s.monitor.zones.get z with window := (t.monitor.zones.get z).window } } } ∧
      (c.record.installed = false → t.drive.zones.get z = { c with compare := 0 }) ∧
      (c.record.installed = true → c.record.phase ≠ c.phase →
        t.drive.zones.get z =
          { c with hold, phase := c.record.phase, compare := 0, polarity := c.record.polarity }) ∧
      (c.record.installed = true → c.record.phase = c.phase →
        t.drive.zones.get z =
          { c with
            hold, polarity := c.record.polarity, activeDuty := duty, activeMode := mode
            swapPending := if swap then false else c.swapPending, armed := if swap then false else c.armed
            firstPeriod := false, compare, acc := if 16 ≤ sum then sum - 16 else sum }) ∧
      ((c.record.installed = false ∨ c.record.phase ≠ c.phase) →
        (t.monitor.zones.get z).window = if w = .waiting then .waiting else .idle) ∧
      (c.record.installed = true → c.record.phase = c.phase → w ≠ .waiting →
        (t.monitor.zones.get z).window = .idle) ∧
      (c.record.installed = true → c.record.phase = c.phase → w = .waiting →
        (hold = false → mode = .pwm →
          (t.monitor.zones.get z).window =
            .opened (if 64 ≤ compare then some (compare / 2) else none)
              (if 64 ≤ compare ∧ 4096 - compare < 64 then none else some (compare + (4096 - compare) / 2))) ∧
          (hold = true ∨ mode = .off → (t.monitor.zones.get z).window = .opened none (some 2048)))

/-- From duty to pin. R94: the effective mode and output level of every channel at every local count, the level of a zone at the
local count that S and its phase give (R86), and a PWM period's counts at the ON level, as many as its compare. R93 over sixteen
period ends of a duty held: with M 0 the compares add up to the duty and the accumulator returns; with any M they never exceed
it; every compare is at most 4096, 4096 only from a duty of 65520 or above, and the accumulator stays within 0 to 15. The field
for S holds its value as of the last command that fixes it, log 4; the statement is over every value. -/
def Obligations.SixteenPeriodsCarryTheFraction : Prop :=
  (∀ (c : Channel) (n : Nat),
    let on : Bool := decide (c.polarity = .activeHigh)
    (c.hold = true → c.effective = .inactive ∧ c.output n = some (!on)) ∧
      (c.hold = false → c.activeMode = .pwm →
        c.effective = .pwm ∧ c.output n = if n < c.compare then some on else some (!on)) ∧
      (c.hold = false → c.activeMode = .off → c.effective = .off ∧ c.output n = some (!on)) ∧
      (c.hold = false → c.activeMode = .float → c.effective = .float ∧ c.output n = none)) ∧
    (∀ (s : State) (z : Zone), s.drive.sharedCount ≤ 4095 → (s.drive.zones.get z).phase ≤ 4095 →
      let n := s.drive.localCount z
      n ≤ 4095 ∧ (n + (s.drive.zones.get z).phase) % 4096 = s.drive.sharedCount ∧
        s.zoneOutput z = if s.supply.inReset then none else (s.drive.zones.get z).output n) ∧
    (∀ c : Channel, c.hold = false → c.activeMode = .pwm → c.compare ≤ 4096 →
      (List.range 4096).countP (fun n => decide (c.output n = some (decide (c.polarity = .activeHigh)))) = c.compare) ∧
    ∀ duty acc minOn : Nat, duty ≤ 65535 → acc ≤ 15 →
      let accAfter (k : Nat) := (fun a => (formCompare duty a minOn).2)^[k] acc
      let compare (m k : Nat) := (formCompare duty (accAfter k) m).1
      ((List.range 16).map (compare 0)).sum = duty ∧ accAfter 16 = acc ∧
        ((List.range 16).map (compare minOn)).sum ≤ duty ∧
        ∀ k, accAfter k ≤ 15 ∧ compare minOn k ≤ 4096 ∧ (compare minOn k = 4096 → 65520 ≤ duty) ∧
          (compare minOn k ≠ 0 → minOn ≤ compare minOn k)

/-- The count clock (R87), FSYNC and the sync watch (R96, R97). That a level taken by FSYNC_LEVEL_TAKEN which is a named change has
the effects of a sync event, beside the row SYNC_EVENT, is the model's reading, log 13. The sync watch time is held as 0 or
100, log 6. -/
def Obligations.SyncEventsArmAndTheirLossIsRecorded : Prop :=
  (∀ s : State, s.supply.inReset = false →
    exec .countClockSwitch s = .next { s with drive := { s.drive with countRate := s.drive.baseFrequency } }) ∧
    (∀ (s : State) (c : Instr) (high : Bool), s.supply.inReset = false →
      c = .syncEvent high ∨ c = .fsyncLevelTaken high → s.drive.fsync = some (!high) →
      (s.drive.edgeMode = .both ∨ s.drive.edgeMode = .rising ∧ high = true ∨
        s.drive.edgeMode = .falling ∧ high = false) →
      (s.drive.swapMode = .frame →
        exec c s = .next
          { s with
            drive :=
              { s.drive with
                fsync := some high, syncLost := false, syncWatch := 0
                zones := .ofFn fun z =>
                  if s.installed z = true ∧ (s.drive.zones.get z).swapPending = true then
                    { s.drive.zones.get z with armed := true }
                  else s.drive.zones.get z }
            recorder :=
              if s.drive.syncLost then
                { s.recorder with conditions := { s.recorder.conditions with syncLost := false } }.append
                  (deviceRecord s.now .syncLost .cleared 0)
              else s.recorder }) ∧
        (s.drive.swapMode = .auto →
          exec c s = .next { s with drive := { s.drive with fsync := some high } })) ∧
    (∀ (s : State) (high : Bool), s.supply.inReset = false →
      (s.drive.fsync = none ∨ s.drive.fsync = some high ∨ s.drive.edgeMode = .disabled ∨
        s.drive.edgeMode = .rising ∧ high = false ∨ s.drive.edgeMode = .falling ∧ high = true) →
      exec (.fsyncLevelTaken high) s = .next { s with drive := { s.drive with fsync := some high } }) ∧
    ∀ s : State, s.supply.inReset = false → s.drive.swapMode = .frame → s.drive.edgeMode ≠ .disabled →
      s.drive.syncLost = false →
      exec .syncWatchExpiry s = .next
        { s with
          drive := { s.drive with syncLost := true, syncWatch := 100 }
          recorder :=
            { s.recorder with conditions := { s.recorder.conditions with syncLost := true } }.append
              (deviceRecord s.now .syncLost .raised 0) }

/-! ### The String and Thermal Monitor and the Fault Recorder -/

/-- One outcome of a pair (R110), its report (R120) and its lockout (R113, R99, R101). That an asserted kind's count may stand
below Q while it clears, against a sentence of R121, is the model's reading, log 31. -/
def Obligations.OutcomesMoveTheQualificationCount : Prop :=
  ∀ (s : State) (z : Zone) (k : FaultKind) (detail : Nat),
    let e := s.entry z k
    let q := s.monitor.limit
    let stored (x : FaultEntry) : Recorder :=
      { s.recorder with table := s.recorder.table.set z ((s.recorder.table.get z).set k x) }
    s.qualify z k .none detail = s ∧
      (e.count + 1 < q → s.qualify z k .bad detail = { s with recorder := stored { e with count := e.count + 1 } }) ∧
      (q ≤ e.count + 1 → e.asserted = true →
        s.qualify z k .bad detail = { s with recorder := stored { e with count := q } }) ∧
      (q ≤ e.count + 1 → e.asserted = false →
        let raised := (stored ⟨q, true, min 255 (e.raises + 1), some s.now⟩).append
          (zoneRecord s.now z k .raised detail)
        ((s.monitor.zones.get z).reaction k ≠ .off → s.qualify z k .bad detail = { s with recorder := raised }) ∧
          ((s.monitor.zones.get z).reaction k = .off →
            s.qualify z k .bad detail =
              { s with
                recorder := raised
                monitor :=
                  { s.monitor with
                    zones := s.monitor.zones.set z
                      { s.monitor.zones.get z with lockout := true, window := .idle } }
                drive :=
                  { s.drive with
                    zones := s.drive.zones.set z
                      { s.drive.zones.get z with hold := true, supplyEnable := false } } })) ∧
      (1 < e.count → s.qualify z k .good detail = { s with recorder := stored { e with count := e.count - 1 } }) ∧
      (e.count ≤ 1 → e.asserted = true →
        s.qualify z k .good detail =
          { s with
            recorder := (stored { e with count := 0, asserted := false }).append
              (zoneRecord s.now z k .cleared detail) }) ∧
      (e.count ≤ 1 → e.asserted = false →
        s.qualify z k .good detail = { s with recorder := stored { e with count := 0 } })

/-- Sample points and conversion completions (R105 to R109, R113): which outcomes are qualified, in which order, over which
state; a discarded conversion stores and qualifies nothing, and the scan goes on (R107, R117). The current's unit is the
operand's, log 14. That a window whose OFF point is read has no ON point to come is the model's reading, log 26. -/
def Obligations.SamplesAndConversionsAreQualified : Prop :=
  (∀ (s : State) (z : Zone) (current at_ : Nat) (off : Option Nat),
    s.supply.inReset = false → s.installed z = true → s.lockedOut z = false →
    (s.monitor.zones.get z).window = .opened (some at_) off →
    let c := s.drive.zones.get z
    let m := s.monitor.zones.get z
    let read : State :=
      { s with
        drive := { s.drive with sharedCount := (c.phase + at_) % 4096 }
        monitor := { s.monitor with zones := s.monitor.zones.set z { m with window := .opened none off } } }
    exec (.samplePoint z .on current) s = .next
      (if c.hold then read
      else
        (read.qualify z .openString (if current < 256 * m.openThreshold then .bad else .good) c.compare).qualify z
          .shortString (if 256 * m.shortThreshold < current then .bad else .good) c.compare)) ∧
    (∀ (s : State) (z : Zone) (current at_ : Nat) (on : Option Nat),
      s.supply.inReset = false → s.installed z = true → s.lockedOut z = false →
      (s.monitor.zones.get z).window = .opened on (some at_) →
      let c := s.drive.zones.get z
      let m := s.monitor.zones.get z
      let read : State :=
        { s with
          drive := { s.drive with sharedCount := (c.phase + at_) % 4096 }
          monitor := { s.monitor with zones := s.monitor.zones.set z { m with window := .opened none none } } }
      exec (.samplePoint z .off current) s = .next
        (read.qualify z .stuckOn (if 256 * m.openThreshold ≤ current then .bad else .good) c.compare)) ∧
    (∀ (s : State) (code : Fin 1024) (z : Zone), s.supply.inReset = false → s.monitor.scan = some ⟨z, true⟩ →
      ∃ u, exec (.conversionCompletion code) s = .next u ∧
        u = { s with monitor := { s.monitor with scan := u.monitor.scan } } ∧ ScanGoesOn s z u.monitor.scan) ∧
    ∀ (s : State) (code : Fin 1024) (z : Zone), s.supply.inReset = false → s.installed z = true →
      s.monitor.scan = some ⟨z, false⟩ →
      let t : Int := ((code.val * 190 / 1023 : Nat) : Int) - 40
      let ended := code.val = 0 ∨ code.val = 1023
      let stored : State :=
        { s with
          monitor :=
            { s.monitor with
              zones := s.monitor.zones.set z { s.monitor.zones.get z with latest := some ⟨code.val, t⟩ } } }
      let therm := stored.qualify z .thermFault (if ended then .bad else .good) code.val
      let both := therm.qualify z .overtemp
        (if ended ∨ (therm.entry z .thermFault).asserted = true then .none
        else if s.monitor.scanCut ≤ t then .bad
        else if t ≤ s.monitor.scanCut - 5 then .good
        else .none) (t + 40).toNat
      let done := if s.lockedOut z then stored else both
      ∃ u, exec (.conversionCompletion code) s = .next u ∧
        u = { done with monitor := { done.monitor with scan := u.monitor.scan } } ∧ ScanGoesOn s z u.monitor.scan

/-- An append (R127) and its stamp (R124), and the JOURNAL cause that follows a port's unread count. -/
def Obligations.AppendKeepsTheNewestAndCountsForBothPorts : Prop :=
  (∀ (r : Recorder) (x : JournalRecord),
    (r.append x).table = r.table ∧ (r.append x).conditions = r.conditions ∧
      (r.journal.length < 48 →
        (r.append x).journal = r.journal ++ [x] ∧
          ∀ p, (r.append x).unread.get p = r.unread.get p + 1 ∧ (r.append x).missed.get p = r.missed.get p) ∧
      (r.journal.length = 48 →
        (r.append x).journal = r.journal.tail ++ [x] ∧
          ∀ p,
            (r.unread.get p < 48 →
              (r.append x).unread.get p = r.unread.get p + 1 ∧ (r.append x).missed.get p = r.missed.get p) ∧
              (r.unread.get p = 48 →
                (r.append x).unread.get p = 48 ∧ (r.append x).missed.get p = min 255 (r.missed.get p + 1)))) ∧
    ∀ s : State,
      s.now = (if s.clock.valid then .civil s.clock.time else .uptime s.supply.uptime) ∧
        ∀ p, s.pendingCause p .journal = true ↔ 0 < s.recorder.unread.get p

/-! ### The link ports and the Table Store -/

/-- Addresses, data bytes, and the end of a write (R75, R132, R145, R146). A write address whose START ends a write in progress
follows the taking that a STOP would give: the model's reading, log 12. The acknowledge is the model's own record, log 20. -/
def Obligations.WriteTransactionsAreReceivedAndTaken : Prop :=
  (∀ (s : State) (p : Port) (addr : Address), s.supply.inReset = false → (s.ports.get p).receive = .idle →
    let own := addr = (s.ports.get p).address ∧ (s.ports.get p).slot = none
    exec (.writeAddress p addr) s = .next
      { s with
        ports := s.ports.set p
          (if own then { s.ports.get p with receive := .receiving none [] 0, lastAck := true }
          else { s.ports.get p with lastAck := false }) }) ∧
    (∀ (s : State) (p : Port) (addr : Address), s.supply.inReset = false → (s.ports.get p).receive ≠ .idle →
      ∃ u, exec (.requestTaken (.one p)) s = .next u ∧
        exec (.writeAddress p addr) s = .next
          { u with
            ports := u.ports.set p
              (if addr = (s.ports.get p).address ∧ (u.ports.get p).slot = none then
                { u.ports.get p with receive := .receiving none [] 0, lastAck := true }
              else { u.ports.get p with lastAck := false }) }) ∧
    (∀ (s : State) (p : Port) (b : Byte), s.supply.inReset = false →
      (∀ args n, (s.ports.get p).receive = .receiving none args n →
        exec (.dataByte p b) s = .next
          { s with
            ports := s.ports.set p
              { s.ports.get p with receive := .receiving (some b) args n, lastAck := true } }) ∧
        ∀ c args n, (s.ports.get p).receive = .receiving (some c) args n →
          exec (.dataByte p b) s = .next
            { s with
              ports := s.ports.set p
                { s.ports.get p with
                  receive := .receiving (some c) (if args.length < 48 then args ++ [b] else args) (min 255 (n + 1))
                  lastAck := true } }) ∧
    (∀ (s : State) (p : Port) (args : List Byte) (n : Nat), s.supply.inReset = false →
      (s.ports.get p).receive = .receiving none args n →
      exec (.requestTaken (.one p)) s = .next
        { s with ports := s.ports.set p { s.ports.get p with receive := .idle } }) ∧
    (∀ (s : State) (p : Port) (c : Byte) (args : List Byte) (n : Nat), s.supply.inReset = false →
      (s.ports.get p).receive = .receiving (some c) args n →
      let failsafe := p = .a ∧ s.authority.mode = .failsafe
      exec (.requestTaken (.one p)) s = .next
        { s with
          ports := s.ports.set p
            { s.ports.get p with receive := .idle, slot := some ⟨c, args, n⟩, response := ⟨.pending, []⟩ }
          store := { s.store with serving := some (s.store.serving.getD p) }
          authority :=
            if p = .a then
              { s.authority with
                mode := .normal, origin := .reset
                presence :=
                  if s.authority.settings.window = 0 then .disabled else .seconds s.authority.settings.window }
            else s.authority
          recorder :=
            if failsafe then
              (let cleared : Recorder :=
                { s.recorder with conditions := { s.recorder.conditions with failsafe := false } }
              if s.authority.origin = .presence then cleared.append (deviceRecord s.now .failsafe .cleared 0)
              else cleared)
            else s.recorder }) ∧
    ∀ (s t : State) (c c' : Byte) (args args' : List Byte) (n n' : Nat), s.supply.inReset = false →
      s.store.serving = none → s.ports.a.receive = .receiving (some c) args n →
      s.ports.o.receive = .receiving (some c') args' n' → exec (.requestTaken .both) s = .next t →
      t.store.serving = some .a ∧ t.ports.a.slot = some ⟨c, args, n⟩ ∧ t.ports.o.slot = some ⟨c', args', n'⟩

/-- A whole write transaction, put as commands on the queue: the code, the first 48 argument bytes and their count up to 255
stand in the slot, answered PENDING (R145, R146). -/
def Obligations.RequestBytesReachTheSlot : Prop :=
  ∀ (s : State) (p : Port) (code : Byte) (args : List Byte), s.supply.inReset = false →
    (s.ports.get p).slot = none → (s.ports.get p).receive = .idle →
    ∃ t,
      Host.Core.run core (args.length + 3)
          (s.withPending (.writeAddress p (s.ports.get p).address :: .dataByte p code ::
              (args.map (Instr.dataByte p) ++ [.requestTaken (.one p)])) : State) = .next (t : State) ∧
        t.pending = [] ∧ (t.ports.get p).slot = some ⟨code, args.take 48, min 255 args.length⟩ ∧
        (t.ports.get p).response = ⟨.pending, []⟩ ∧ (t.ports.get p).receive = .idle ∧
        t.ports.get (otherPort p) = s.ports.get (otherPort p) ∧ t.store.serving = some (s.store.serving.getD p)

/-- A read address copies the response whole, and the bytes of the transaction are those of the copy, 0xFF beyond its end (R147);
another address and a main reset give nothing (R144, R149). An address whose START ends a write in progress follows the taking
that a STOP would give, so a request just taken reads PENDING: the model's reading, log 12. The acknowledge is the model's own
record, log 20. -/
def Obligations.ReadTransactionsSendTheResponse : Prop :=
  (∀ (s : State) (p : Port), s.supply.inReset = false → (s.ports.get p).receive = .idle →
    ∃ t, exec (.responseRead p (s.ports.get p).address) s = .next t ∧
      t = { s with
        ports := s.ports.set p
          { s.ports.get p with snapshot := some (s.ports.get p).response, lastAck := true } } ∧
      let resp := (s.ports.get p).response
      (resp.status, (t.readByte p 0).toNat) ∈ statusCodes ∧ t.readByte p 1 = BitVec.ofNat 8 resp.data.length ∧
        (∀ i (h : i < resp.data.length), t.readByte p (i + 2) = resp.data[i]) ∧
        ∀ i, resp.data.length ≤ i → t.readByte p (i + 2) = 0xFF) ∧
    (∀ (s : State) (p : Port) (addr : Address), s.supply.inReset = false → (s.ports.get p).receive = .idle →
      addr ≠ (s.ports.get p).address →
      exec (.responseRead p addr) s = .next
        { s with ports := s.ports.set p { s.ports.get p with lastAck := false } }) ∧
    (∀ (s : State) (p : Port) (addr : Address), s.supply.inReset = false → (s.ports.get p).receive ≠ .idle →
      ∃ u t, exec (.requestTaken (.one p)) s = .next u ∧ exec (.responseRead p addr) s = .next t ∧
        t = { u with
          ports := u.ports.set p
            (if addr = (s.ports.get p).address then
              { u.ports.get p with snapshot := some (u.ports.get p).response, lastAck := true }
            else { u.ports.get p with lastAck := false }) } ∧
        ∀ c args n, (s.ports.get p).receive = .receiving (some c) args n → addr = (s.ports.get p).address →
          t.readByte p 0 = 0x01 ∧ t.readByte p 1 = 0x00 ∧ ∀ i, t.readByte p (i + 2) = 0xFF) ∧
    ∀ (s : State) (p : Port), LinkLaw s →
      (s.supply.inReset = true → ∀ i, s.readByte p i = 0xFF) ∧
        ∀ t, s.supply.inReset = false → (s.ports.get p).slot.isSome = true →
          exec (.responseRead p (s.ports.get p).address) s = .next t →
          t.readByte p 0 = 0x01 ∧ t.readByte p 1 = 0x00 ∧ ∀ i, t.readByte p (i + 2) = 0xFF

/-- R134, with R148: a wrong count answers LENGTH and a port without the right answers DENIED, in that order, before the
request's own rule; an uncatalogued code answers UNKNOWN; a request answered with any status but OK has changed nothing; and
whatever it will answer, its taking on the A-port has reloaded the Presence Timer and ended FAILSAFE. -/
def Obligations.RefusedRequestsChangeNothing : Prop :=
  (∀ (c : Instr) (row : CatalogueRow) (s : State) (p : Port) (r : Request), requestOf c = some (row, p) →
    InService s p row r →
    (r.count ≠ row.argBytes → ∃ t, exec c s = .next t ∧ Refused s t p .length) ∧
      (r.count = row.argBytes → ¬MayMake s p row → ∃ t, exec c s = .next t ∧ Refused s t p .denied) ∧
      ∀ t, exec c s = .next t → row ≠ rowDeviceReset → (t.ports.get p).response.status ≠ .ok →
        ownEffect s t = s) ∧
    (∀ (s : State) (p : Port) (r : Request), s.supply.inReset = false → s.store.serving = some p →
      (s.ports.get p).slot = some r → (∀ row ∈ catalogue, row.code ≠ r.code) →
      ∃ t, exec (.unknownCode p) s = .next t ∧ Refused s t p .unknown) ∧
    ∀ (s t : State) (p : Port) (c : Byte) (args : List Byte) (n : Nat), s.supply.inReset = false →
      (s.ports.get p).receive = .receiving (some c) args n → exec (.requestTaken (.one p)) s = .next t →
      t.authority =
        if p = .a then
          { s.authority with
            mode := .normal, origin := .reset
            presence := if s.authority.settings.window = 0 then .disabled else .seconds s.authority.settings.window }
        else s.authority

/-- The codes, access and argument counts of the catalogue (R151), and its twelve reads: served from either port they answer OK
with the catalogue's number of bytes and change nothing (R140, R151); a zone or entry number outside its range answers RANGE
(R25, R59, R88, R121). -/
def Obligations.ReadsAnswerAndChangeNothing : Prop :=
  CatalogueIsTabled ∧ ∀ (s : State) (p : Port) (c : Instr) (row : CatalogueRow) (r : Request), requestOf c = some (row, p) →
    Admitted s p row r →
    (∀ n : Nat,
      (c = .status p ∧ n = 21 ∨ c = .clockRead p ∧ n = 11 ∨ c = .curveRead p ∧ n = 45 ∨ c = .sensorRead p ∧ n = 50 ∨
        c = .gainRead p ∧ n = 32 ∨ c = .ovrList p ∧ n = 1 + 9 * s.authority.stack.length ∨ c = .authRead p ∧ n = 23 ∨
        c = .grantRead p ∧ n = 5 ∨ c = .epochRead p ∧ r.u1 0 < 24 ∧ n = 17 ∨ c = .zoneRead p ∧ r.u1 0 < 16 ∧ n = 16 ∨
        c = .levelRead p ∧ r.u1 0 < 16 ∧ n = 16 ∨ c = .faultRead p ∧ r.u1 0 < 16 ∧ n = 66) →
      ∃ t d, exec c s = .next t ∧ Answered s t p ⟨.ok, d⟩ ∧ d.length = n ∧ ownEffect s t = s) ∧
      ((c = .epochRead p ∧ 24 ≤ r.u1 0 ∨
          (c = .zoneRead p ∨ c = .levelRead p ∨ c = .faultRead p) ∧ 16 ≤ r.u1 0) →
        ∃ t, exec c s = .next t ∧ Refused s t p .range)

/-- What stands where in the reads of the zones (R25, R88, R121, R150, R153, R154), under the ranges of their state. A
Fault Table entry reads as it stands, so a set flag may stand beside a count below Q: the model's reading, log 31. -/
def Obligations.ZoneReadsCarryTheZonesState : Prop :=
  ∀ (s : State) (p : Port) (z : Zone) (r : Request), ZoneRangeLaw s → CompareLaw s → QualificationLaw s →
    r.u1 0 = z.val →
    let x := s.resolver.get z
    let c := s.drive.zones.get z
    let m := s.monitor.zones.get z
    (Admitted s p rowLevelRead r → ∃ t d, exec (.levelRead p) s = .next t ∧ Answered s t p ⟨.ok, d⟩ ∧
      fieldAt d 0 1 = z.val ∧ fieldAt d 1 2 = x.present ∧ fieldAt d 3 2 = x.target ∧ fieldAt d 5 2 = x.ceiling ∧
      (x.reason, fieldAt d 7 1) ∈ ceilingReasonCodes ∧ fieldAt d 8 2 = c.dutyBuffer ∧ fieldAt d 10 2 = c.activeDuty ∧
      fieldAt d 12 2 = c.compare ∧ fieldAt d 14 1 = c.acc ∧
      (c.effective, fieldAt d 15 1) ∈ effectiveModeCodes) ∧
      (Admitted s p rowZoneRead r → ∃ t d, exec (.zoneRead p) s = .next t ∧ Answered s t p ⟨.ok, d⟩ ∧
        fieldAt d 0 1 = z.val ∧ fieldAt d 1 1 = c.record.installed.toNat ∧
        (c.record.cls, fieldAt d 2 1) ∈ zoneClassCodes ∧ (c.record.polarity, fieldAt d 3 1) ∈ zonePolarityCodes ∧
        fieldAt d 4 2 = c.record.lmax ∧ fieldAt d 6 1 = c.record.minOn ∧
        fieldAt d 7 2 = c.record.phase ∧ fieldAt d 9 2 = c.phase ∧ fieldAt d 11 1 = c.supplyEnable.toNat ∧
        (s.drive.baseFrequency, fieldAt d 12 1) ∈ frequencyCodes ∧ (s.drive.edgeMode, fieldAt d 13 1) ∈ edgeModeCodes ∧
        (s.drive.swapMode, fieldAt d 14 1) ∈ swapModeCodes ∧ fieldAt d 15 1 = s.drive.syncLost.toNat) ∧
      (Admitted s p rowFaultRead r → ∃ t d, exec (.faultRead p) s = .next t ∧ Answered s t p ⟨.ok, d⟩ ∧
        fieldAt d 0 1 = z.val ∧
        (∀ k j, (k, j) ∈ [(FaultKind.openString, 0), (.shortString, 1), (.stuckOn, 2), (.overtemp, 3), (.thermFault, 4)] →
          fieldAt d (1 + 10 * j) 1 = (s.entry z k).count ∧
            fieldAt d (2 + 10 * j) 1 = (s.entry z k).asserted.toNat ∧
            fieldAt d (3 + 10 * j) 1 = (s.entry z k).raises % 256 ∧
            StampAt d (4 + 10 * j) (s.entry z k).lastRaised) ∧
        fieldAt d 51 1 = m.lockout.toNat ∧ fieldAt d 52 1 = m.openThreshold ∧ fieldAt d 53 1 = m.shortThreshold ∧
        (m.openReaction, fieldAt d 54 1) ∈ reactionCodes ∧ (m.shortReaction, fieldAt d 55 1) ∈ reactionCodes ∧
        (m.stuckReaction, fieldAt d 56 1) ∈ reactionCodes ∧ (m.overtempReaction, fieldAt d 57 1) ∈ reactionCodes ∧
        fieldAt d 58 1 = s.monitor.limit ∧ fieldAt d 59 1 = m.latest.isSome.toNat ∧
        fieldAt d 60 2 = (match m.latest with
          | some y => (y.celsius % 65536).toNat
          | none => 0) ∧
        fieldAt d 62 2 = (match m.latest with
          | some y => y.code
          | none => 0) ∧
        fieldAt d 64 2 = conditionWeights s.recorder.conditions)

/-- What stands where in the reads of the device (R44, R54, R59, R70, R84, R139, R150, R154), under the ranges of its state; and
the numbers by which the requests name their enumerated fields (R150). Of an entry's parity nothing is known but that it is a
function of its fields, log 9. -/
def Obligations.DeviceReadsCarryTheDevicesState : Prop :=
  RequestCodesAreTabled ∧ ∀ (s : State) (p : Port) (r : Request), ScheduleLaw s → AmbientLaw s → AuthorityLaw s → StackLaw s →
    CurveLaw s.ambient.curve → s.supply.uptime < 4294967296 → s.supply.battery.getD 0 ≤ 7 →
    (∀ z, (s.resolver.get z).gain ≤ 256) →
    let a := s.authority
    let e := s.ambient
    (Admitted s p rowStatus r → ∃ t d, exec (.status p) s = .next t ∧ Answered s t p ⟨.ok, d⟩ ∧
      (a.mode, fieldAt d 0 1) ∈ modeCodes ∧ fieldAt d 1 1 = (decide (ScheduleValid s)).toNat ∧
      fieldAt d 2 1 = (match s.clock.active with
        | some x => x.index.val
        | none => 0xFF) ∧
      fieldAt d 3 3 = e.filtered.getD 0 ∧ fieldAt d 6 1 = e.filtered.isSome.toNat ∧ fieldAt d 7 1 = e.grade ∧
      fieldAt d 8 1 = (decide (KillInForce a)).toNat ∧ fieldAt d 9 1 = a.latch.toNat ∧
      fieldAt d 10 1 = (decide (EblankActive a)).toNat ∧
      fieldAt d 11 2 = (match a.presence with
        | .disabled => 0xFFFF
        | .seconds n => n) ∧
      fieldAt d 13 1 = s.clock.valid.toNat ∧ fieldAt d 14 1 = s.supply.battery.getD 0xFF ∧
      (s.supply.cause, fieldAt d 15 1) ∈ resetCauseCodes ∧ fieldAt d 16 1 = s.supply.backupLost.toNat ∧
      fieldAt d 17 4 = s.supply.uptime) ∧
      (Admitted s p rowClockRead r → ∃ t d, exec (.clockRead p) s = .next t ∧ Answered s t p ⟨.ok, d⟩ ∧
        fieldAt d 0 1 = s.clock.time.year - 2000 ∧ fieldAt d 1 1 = s.clock.time.month ∧
        fieldAt d 2 1 = s.clock.time.day ∧ fieldAt d 3 1 = s.clock.time.hour ∧ fieldAt d 4 1 = s.clock.time.minute ∧
        fieldAt d 5 1 = s.clock.time.second ∧ fieldAt d 6 1 = s.clock.time.weekday ∧
        fieldAt d 7 2 = 60 * s.clock.time.hour + s.clock.time.minute ∧ fieldAt d 9 1 = s.clock.valid.toNat ∧
        fieldAt d 10 1 = s.clock.failed.toNat) ∧
      (∀ i : Fin 24, r.u1 0 = i.val → Admitted s p rowEpochRead r →
        let x := s.clock.epochs.get i
        ∃ t d, exec (.epochRead p) s = .next t ∧ Answered s t p ⟨.ok, d⟩ ∧ fieldAt d 0 1 = i.val ∧
          fieldAt d 1 1 = x.fields.inUse.toNat ∧ fieldAt d 2 2 = x.fields.months.toNat ∧
          fieldAt d 4 1 = x.fields.weekdays.toNat ∧ fieldAt d 5 2 = x.fields.start ∧
          fieldAt d 7 2 = x.fields.commercial ∧ fieldAt d 9 2 = x.fields.authority ∧
          fieldAt d 11 3 = x.fields.fallback ∧ fieldAt d 14 1 = x.fields.dark.toNat ∧
          fieldAt d 15 1 = (decide (x.parity = x.fields.parity)).toNat ∧ fieldAt d 16 1 = x.reported.toNat) ∧
      (Admitted s p rowCurveRead r → ∃ t d, exec (.curveRead p) s = .next t ∧ Answered s t p ⟨.ok, d⟩ ∧
        ∀ i : Fin 9, fieldAt d (5 * i.val) 3 = (e.curve.get i).b ∧ fieldAt d (5 * i.val + 3) 2 = (e.curve.get i).l) ∧
      (Admitted s p rowSensorRead r → ∃ t d, exec (.sensorRead p) s = .next t ∧ Answered s t p ⟨.ok, d⟩ ∧
        (∀ i : Fin 3,
          fieldAt d (3 * i.val) 1 = (e.staged.sensors.get i).enable.toNat ∧
            fieldAt d (3 * i.val + 1) 2 = (e.staged.sensors.get i).scale ∧
            fieldAt d (11 + 10 * i.val) 3 = (e.sensors.get i).count ∧
            fieldAt d (14 + 10 * i.val) 3 = (e.sensors.get i).lux ∧
            fieldAt d (17 + 10 * i.val) 1 = (decide ((e.sensors.get i).reason = .none)).toNat ∧
            ((e.sensors.get i).reason, fieldAt d (18 + 10 * i.val) 1) ∈ sensorReasonCodes ∧
            fieldAt d (19 + 10 * i.val) 2 = (e.sensors.get i).stuck) ∧
        fieldAt d 9 1 = e.staged.alpha ∧ fieldAt d 10 1 = e.setupPending.toNat ∧ fieldAt d 41 3 = e.fused ∧
        fieldAt d 44 3 = e.filtered.getD 0 ∧ fieldAt d 47 1 = e.filtered.isSome.toNat ∧ fieldAt d 48 1 = e.spike ∧
        fieldAt d 49 1 = e.grade) ∧
      (Admitted s p rowGainRead r → ∃ t d, exec (.gainRead p) s = .next t ∧ Answered s t p ⟨.ok, d⟩ ∧
        ∀ z : Zone, fieldAt d (2 * z.val) 2 = (s.resolver.get z).gain) ∧
      (Admitted s p rowOvrList r → ∃ t d, exec (.ovrList p) s = .next t ∧ Answered s t p ⟨.ok, d⟩ ∧
        fieldAt d 0 1 = a.stack.length ∧
        ∀ i (h : i < a.stack.length),
          fieldAt d (1 + 9 * i) 1 = a.stack[i].id ∧ (a.stack[i].kind, fieldAt d (2 + 9 * i) 1) ∈ overrideKindCodes ∧
            fieldAt d (3 + 9 * i) 2 = a.stack[i].mask.toNat ∧ fieldAt d (5 + 9 * i) 2 = a.stack[i].level ∧
            fieldAt d (7 + 9 * i) 1 = a.stack[i].priority ∧ fieldAt d (8 + 9 * i) 2 = a.stack[i].remaining.wire) ∧
      (Admitted s p rowAuthRead r → ∃ t d, exec (.authRead p) s = .next t ∧ Answered s t p ⟨.ok, d⟩ ∧
        fieldAt d 0 2 = a.settings.failsafeCommercial ∧ fieldAt d 2 2 = a.settings.failsafeAuthority ∧
        fieldAt d 4 2 = a.settings.window ∧ fieldAt d 6 2 = a.settings.upAbs ∧ fieldAt d 8 1 = a.settings.upRel ∧
        fieldAt d 9 2 = a.settings.downAbs ∧ fieldAt d 11 1 = a.settings.downRel ∧
        (fieldAt d 12 2 : Int) = a.settings.knee % 65536 ∧ (fieldAt d 14 2 : Int) = a.settings.cut % 65536 ∧
        (a.kill.mode, fieldAt d 16 1) ∈ killModeCodes ∧ (a.kill.polarity, fieldAt d 17 1) ∈ killPolarityCodes ∧
        fieldAt d 18 2 = a.kill.mask.toNat ∧ fieldAt d 20 1 = (decide (KillInForce a)).toNat ∧
        fieldAt d 21 1 = a.latch.toNat ∧ fieldAt d 22 1 = (decide (EblankActive a)).toNat) ∧
      (Admitted s p rowGrantRead r → ∃ t d, exec (.grantRead p) s = .next t ∧ Answered s t p ⟨.ok, d⟩ ∧
        (s.store.grants.curve, fieldAt d 0 1) ∈ holderCodes ∧ (s.store.grants.zoneSetup, fieldAt d 1 1) ∈ holderCodes ∧
        (s.store.grants.faultSetup, fieldAt d 2 1) ∈ holderCodes ∧ (s.store.grants.clock, fieldAt d 3 1) ∈ holderCodes ∧
        (s.store.grants.driveTiming, fieldAt d 4 1) ∈ holderCodes)

/-! ### The writes -/

/-- CLOCK_SET (R51, R52, R60), EPOCH_WRITE and EPOCH_ERASE (R57, R58, R60). -/
def Obligations.ClockAndEpochRequestsStoreAndEvaluate : Prop :=
  DeniedWithoutRight .clockSet rowClockSet ∧ DeniedWithoutRight .epochWrite rowEpochWrite ∧
    DeniedWithoutRight .epochErase rowEpochErase ∧
    ∀ (s : State) (p : Port) (r : Request),
      (Admitted s p rowClockSet r →
        let time : CivilTime := ⟨2000 + r.u1 0, r.u1 1, r.u1 2, r.u1 3, r.u1 4, r.u1 5⟩
        (time.valid = false → ∃ t, exec (.clockSet p) s = .next t ∧ Refused s t p .range) ∧
          (time.valid = true → s.clock.failed = true → ∃ t, exec (.clockSet p) s = .next t ∧ Refused s t p .noClock) ∧
          (time.valid = true → s.clock.failed = false →
            ∃ t m, exec (.clockSet p) s = .next t ∧ Answered s t p ⟨.ok, []⟩ ∧ Evaluated m (ownEffect s t) ∧
              m = { s with
                clock := { s.clock with time, prescaler := 0, valid := true }
                recorder :=
                  if s.clock.valid then s.recorder
                  else
                    { s.recorder with conditions := { s.recorder.conditions with clockInvalid := false } }.append
                      (deviceRecord (.civil time) .clockInvalid .cleared 0) })) ∧
        (Admitted s p rowEpochWrite r →
          let months : MonthMask := BitVec.ofNat 12 (r.u2 1)
          let weekdays : WeekdayMask := BitVec.ofNat 7 (r.u1 3)
          ((24 ≤ r.u1 0 ∨ months = 0 ∨ weekdays = 0 ∨ 1440 ≤ r.u2 4) →
            ∃ t, exec (.epochWrite p) s = .next t ∧ Refused s t p .range) ∧
            ∀ i : Fin 24, r.u1 0 = i.val → months ≠ 0 → weekdays ≠ 0 → r.u2 4 < 1440 →
              let fields : EpochFields :=
                { inUse := true, months, weekdays, start := r.u2 4, commercial := min 12000 (r.u2 6)
                  authority := min 12000 (r.u2 8), fallback := min 120000 (r.u3 10), dark := decide (r.u1 13 ≠ 0) }
              ∃ t, exec (.epochWrite p) s = .next t ∧ Answered s t p ⟨.ok, []⟩ ∧
                Evaluated
                  { s with
                    clock :=
                      { s.clock with
                        epochs := s.clock.epochs.set i
                          ⟨fields, fields.parity, false⟩ } }
                  (ownEffect s t)) ∧
          (Admitted s p rowEpochErase r →
            (24 ≤ r.u1 0 → ∃ t, exec (.epochErase p) s = .next t ∧ Refused s t p .range) ∧
              ∀ i : Fin 24, r.u1 0 = i.val →
                let fields : EpochFields := { (s.clock.epochs.get i).fields with inUse := false }
                ∃ t, exec (.epochErase p) s = .next t ∧ Answered s t p ⟨.ok, []⟩ ∧
                  Evaluated
                    { s with
                      clock :=
                        { s.clock with
                          epochs := s.clock.epochs.set i
                            ⟨fields, fields.parity, false⟩ } }
                    (ownEffect s t))

/-- CURVE_WRITE (R42) and SENSOR_SETUP (R28). -/
def Obligations.CurveAndSensorSetupAreCheckedWhole : Prop :=
  DeniedWithoutRight .curveWrite rowCurveWrite ∧ DeniedWithoutRight .sensorSetup rowSensorSetup ∧
    ∀ (s : State) (p : Port) (r : Request),
      (Admitted s p rowCurveWrite r →
        let curve : PointBank CurvePoint := .ofFn fun i => ⟨r.u3 (5 * i.val), r.u2 (5 * i.val + 3)⟩
        let inRange := ∀ q ∈ curve.toList, q.b ≤ 120000 ∧ q.l ≤ 12000
        (¬inRange → ∃ t, exec (.curveWrite p) s = .next t ∧ Refused s t p .range) ∧
          (inRange → ¬Ordered curve.toList → ∃ t, exec (.curveWrite p) s = .next t ∧ Refused s t p .badCurve) ∧
          (inRange → Ordered curve.toList → ∃ t, exec (.curveWrite p) s = .next t ∧ Answered s t p ⟨.ok, []⟩ ∧
            ownEffect s t = { s with ambient := { s.ambient with curve } })) ∧
        (Admitted s p rowSensorSetup r →
          ((r.u2 1 = 0 ∨ r.u2 4 = 0 ∨ r.u2 7 = 0) →
            ∃ t, exec (.sensorSetup p) s = .next t ∧ Refused s t p .range) ∧
            (r.u2 1 ≠ 0 → r.u2 4 ≠ 0 → r.u2 7 ≠ 0 →
              ∃ t, exec (.sensorSetup p) s = .next t ∧ Answered s t p ⟨.ok, []⟩ ∧
                ownEffect s t =
                  { s with
                    ambient :=
                      { s.ambient with
                        staged :=
                          ⟨⟨⟨decide (r.u1 0 ≠ 0), r.u2 1⟩, ⟨decide (r.u1 3 ≠ 0), r.u2 4⟩,
                            ⟨decide (r.u1 6 ≠ 0), r.u2 7⟩⟩, max 1 (min 16 (r.u1 9))⟩
                        setupPending := true } }))

/-- ZONE_SETUP: its refusals and clamping (R88), installation (R89), uninstallation with all it clears (R24, R90, R107, R117, R120),
and a record that changes no installation (R90, R91). The conversion in progress and the mark of a rearmed zone are the model's
own fields, logs 19 and 30. -/
def Obligations.ZoneSetupInstallsUninstallsAndStages : Prop :=
  DeniedWithoutRight .zoneSetup rowZoneSetup ∧
    ∀ (s : State) (p : Port) (r : Request), Admitted s p rowZoneSetup r →
      ((16 ≤ r.u1 0 ∨ 2 ≤ r.u1 2 ∨ 2 ≤ r.u1 3) → ∃ t, exec (.zoneSetup p) s = .next t ∧ Refused s t p .range) ∧
        ∀ (z : Zone) (cls : ZoneClass) (polarity : Polarity), r.u1 0 = z.val → r.u1 2 = cls.code →
          r.u1 3 = polarity.zoneCode →
          let c := s.drive.zones.get z
          let rec_ : ZoneRecord :=
            { installed := decide (r.u1 1 ≠ 0), cls, polarity, lmax := max 100 (min 12000 (r.u2 4))
              minOn := min 63 (r.u1 6), phase := min 4095 (r.u2 7) }
          ∃ t, exec (.zoneSetup p) s = .next t ∧ Answered s t p ⟨.ok, []⟩ ∧
            (r.u1 1 ≠ 0 → c.record.installed = false →
              ownEffect s t =
                { s with
                  drive :=
                    { s.drive with
                      zones := s.drive.zones.set z
                        { c with
                          record := rec_, phase := rec_.phase, polarity, activeMode := .off
                          bufferedMode := if (s.resolver.get z).operator = .on then .pwm else .off, activeDuty := 0
                          dutyBuffer := 0, acc := 0, swapPending := true, armed := false, firstPeriod := true
                          hold := s.authority.killFor z, supplyEnable := true } } }) ∧
            (r.u1 1 = 0 → c.record.installed = true →
              ownEffect s t =
                { s with
                  drive :=
                    { s.drive with
                      zones := s.drive.zones.set z
                        { c with
                          record := rec_, phase := rec_.phase, activeMode := .float, bufferedMode := .float
                          activeDuty := 0, dutyBuffer := 0, acc := 0, swapPending := false, armed := false
                          firstPeriod := false, hold := false, supplyEnable := false } }
                  resolver := s.resolver.set z
                    { s.resolver.get z with
                      present := 0, target := 0, ceiling := 0, reason := .none, duty := 0, fromZero := false }
                  monitor :=
                    { s.monitor with
                      zones := s.monitor.zones.set z
                        { s.monitor.zones.get z with window := .idle, lockout := false, latest := none }
                      scan := s.monitor.scan.map fun x => if x.zone = z then { x with discarded := true } else x }
                  recorder :=
                    { s.recorder with
                      table := s.recorder.table.set z
                        ⟨⟨0, false, 0, none⟩, ⟨0, false, 0, none⟩, ⟨0, false, 0, none⟩, ⟨0, false, 0, none⟩,
                          ⟨0, false, 0, none⟩⟩ } }) ∧
            ((r.u1 1 ≠ 0 ↔ c.record.installed = true) →
              ownEffect s t =
                { s with drive := { s.drive with zones := s.drive.zones.set z { c with record := rec_ } } })

/-- GAIN_WRITE (R7) and ZONE_MODE (R100). -/
def Obligations.OperatorWritesReachEveryZoneOfTheirMask : Prop :=
  DeniedWithoutRight .gainWrite rowGainWrite ∧ DeniedWithoutRight .zoneMode rowZoneMode ∧
    ∀ (s : State) (p : Port) (r : Request),
      let mask : ZoneMask := BitVec.ofNat 16 (r.u2 0)
      (Admitted s p rowGainWrite r →
        (mask = 0 → ∃ t, exec (.gainWrite p) s = .next t ∧ Refused s t p .range) ∧
          (mask ≠ 0 → ∃ t, exec (.gainWrite p) s = .next t ∧ Answered s t p ⟨.ok, []⟩ ∧
            ownEffect s t =
              { s with
                resolver := .ofFn fun z =>
                  if mask.getLsbD z.val = true then { s.resolver.get z with gain := min 256 (r.u2 2) }
                  else s.resolver.get z })) ∧
        (Admitted s p rowZoneMode r →
          ((mask = 0 ∨ 2 ≤ r.u1 2) → ∃ t, exec (.zoneMode p) s = .next t ∧ Refused s t p .range) ∧
            (mask ≠ 0 → r.u1 2 < 2 → ∃ t, exec (.zoneMode p) s = .next t ∧ Answered s t p ⟨.ok, []⟩ ∧
              ownEffect s t =
                { s with
                  resolver := .ofFn fun z =>
                    if mask.getLsbD z.val = true then
                      { s.resolver.get z with operator := if r.u1 2 = 1 then .on else .off }
                    else s.resolver.get z
                  drive :=
                    { s.drive with
                      zones := .ofFn fun z =>
                        if mask.getLsbD z.val = true ∧ s.installed z = true then
                          { s.drive.zones.get z with
                            bufferedMode := if r.u1 2 = 1 then .pwm else .off, swapPending := true }
                        else s.drive.zones.get z } }))

/-- OVR_PUSH (R67, R68): its refusals, a replacement, a free place, an eviction and FULL. -/
def Obligations.OverridePushReplacesAppendsOrEvicts : Prop :=
  DeniedWithoutRight .ovrPush rowOvrPush ∧
    ∀ (s : State) (p : Port) (r : Request), StackLaw s → Admitted s p rowOvrPush r →
      let stack := s.authority.stack
      let mask : ZoneMask := BitVec.ofNat 16 (r.u2 2)
      let data (replaced evicted held : Nat) : List Byte :=
        [BitVec.ofNat 8 replaced, BitVec.ofNat 8 evicted, BitVec.ofNat 8 held]
      let leaves (l : List Override) : State := { s with authority := { s.authority with stack := l } }
      ((r.u1 0 = 0 ∨ r.u1 1 = 0 ∨ 4 ≤ r.u1 1 ∨ mask = 0 ∨ 4 ≤ r.u1 6) →
        ∃ t, exec (.ovrPush p) s = .next t ∧ Answered s t p ⟨.range, data 0 0 stack.length⟩ ∧ ownEffect s t = s) ∧
        ∀ kind : OverrideKind, r.u1 1 = kind.code → r.u1 0 ≠ 0 → mask ≠ 0 → r.u1 6 < 4 →
          let e : Override :=
            { id := r.u1 0, kind, mask, level := min 12000 (r.u2 4), priority := r.u1 6
              remaining := if r.u2 7 = 0 then .never else .seconds (r.u2 7) }
          (∀ older x newer, stack = older ++ x :: newer → x.id = e.id →
            ∃ t, exec (.ovrPush p) s = .next t ∧ Answered s t p ⟨.ok, data 1 0 stack.length⟩ ∧
              ownEffect s t = leaves (older ++ newer ++ [e])) ∧
            ((∀ x ∈ stack, x.id ≠ e.id) → stack.length < 8 →
              ∃ t, exec (.ovrPush p) s = .next t ∧ Answered s t p ⟨.ok, data 0 0 (stack.length + 1)⟩ ∧
                ownEffect s t = leaves (stack ++ [e])) ∧
            ((∀ x ∈ stack, x.id ≠ e.id) → stack.length = 8 →
              ∀ older x newer, stack = older ++ x :: newer → (∀ y ∈ older, x.priority < y.priority) →
                (∀ y ∈ newer, x.priority ≤ y.priority) →
                (x.priority < e.priority →
                  ∃ t, exec (.ovrPush p) s = .next t ∧ Answered s t p ⟨.ok, data 0 x.id 8⟩ ∧
                    ownEffect s t = leaves (older ++ newer ++ [e])) ∧
                  (e.priority ≤ x.priority →
                    ∃ t, exec (.ovrPush p) s = .next t ∧ Answered s t p ⟨.full, data 0 0 8⟩ ∧ ownEffect s t = s))

/-- OVR_REMOVE and OVR_CLEAR (R69). -/
def Obligations.OverrideRemoveAndClearTakeEntriesAway : Prop :=
  DeniedWithoutRight .ovrRemove rowOvrRemove ∧ DeniedWithoutRight .ovrClear rowOvrClear ∧
    ∀ (s : State) (p : Port) (r : Request), StackLaw s →
      let stack := s.authority.stack
      (Admitted s p rowOvrRemove r →
        (r.u1 0 = 0 → ∃ t, exec (.ovrRemove p) s = .next t ∧
          Answered s t p ⟨.range, [BitVec.ofNat 8 stack.length]⟩ ∧ ownEffect s t = s) ∧
          (r.u1 0 ≠ 0 → (∀ x ∈ stack, x.id ≠ r.u1 0) → ∃ t, exec (.ovrRemove p) s = .next t ∧
            Answered s t p ⟨.notFound, [BitVec.ofNat 8 stack.length]⟩ ∧ ownEffect s t = s) ∧
          ∀ older x newer, r.u1 0 ≠ 0 → stack = older ++ x :: newer → x.id = r.u1 0 →
            ∃ t, exec (.ovrRemove p) s = .next t ∧
              Answered s t p ⟨.ok, [BitVec.ofNat 8 (stack.length - 1)]⟩ ∧
              ownEffect s t = { s with authority := { s.authority with stack := older ++ newer } }) ∧
        (Admitted s p rowOvrClear r →
          ∃ t, exec (.ovrClear p) s = .next t ∧ Answered s t p ⟨.ok, [0]⟩ ∧
            ownEffect s t = { s with authority := { s.authority with stack := [] } })

/-- KILL_SETUP (R80) and KILL_RELEASE (R79). -/
def Obligations.KillRequestsFormTheKillAfresh : Prop :=
  DeniedWithoutRight .killSetup rowKillSetup ∧ DeniedWithoutRight .killRelease rowKillRelease ∧
    ∀ (s : State) (p : Port) (r : Request),
      (Admitted s p rowKillSetup r →
        let mask : ZoneMask := BitVec.ofNat 16 (r.u2 2)
        ((2 ≤ r.u1 0 ∨ 2 ≤ r.u1 1 ∨ mask = 0) → ∃ t, exec (.killSetup p) s = .next t ∧ Refused s t p .range) ∧
          ∀ (mode : KillMode) (polarity : Polarity), r.u1 0 = mode.code → r.u1 1 = polarity.killCode → mask ≠ 0 →
            let old := s.authority.kill
            let active (k : Polarity) : Bool := match s.authority.eblank with
              | some high => decide (high = true ↔ k = .activeHigh)
              | none => false
            let latch : Bool :=
              if mode ≠ old.mode then decide (mode = .latch) && active polarity
              else s.authority.latch ||
                (decide (mode = .latch ∧ polarity ≠ old.polarity) && !active old.polarity && active polarity)
            let before : Bool := if old.mode = .level then active old.polarity else s.authority.latch
            let after : Bool := if mode = .level then active polarity else latch
            let ends := before = true ∧ (after = false ∨ mask ≠ old.mask)
            let begins := after = true ∧ (before = false ∨ mask ≠ old.mask)
            ∃ t, exec (.killSetup p) s = .next t ∧ Answered s t p ⟨.ok, []⟩ ∧
              ownEffect s t =
                { s with
                  authority := { s.authority with kill := ⟨mode, polarity, mask⟩, latch }
                  drive :=
                    { s.drive with
                      zones := .ofFn fun z =>
                        if begins ∧ s.installed z = true ∧ mask.getLsbD z.val = true ∧
                            (before = false ∨ old.mask.getLsbD z.val = false) then
                          { s.drive.zones.get z with hold := true }
                        else s.drive.zones.get z }
                  recorder :=
                    ({ s.recorder with
                      conditions :=
                        { s.recorder.conditions with
                          kill := if ends ∨ begins then after else s.recorder.conditions.kill } } : Recorder).appendAll
                      ((if ends then [deviceRecord s.now .kill .cleared old.mask.toNat] else []) ++
                        if begins then [deviceRecord s.now .kill .raised mask.toNat] else []) }) ∧
        (Admitted s p rowKillRelease r →
          (s.authority.latch = false →
            ∃ t, exec (.killRelease p) s = .next t ∧ Answered s t p ⟨.ok, []⟩ ∧ ownEffect s t = s) ∧
            (s.authority.latch = true → s.authority.eblankActive = true →
              ∃ t, exec (.killRelease p) s = .next t ∧ Refused s t p .active) ∧
            (s.authority.latch = true → s.authority.eblankActive = false → s.authority.kill.mode = .latch →
              ∃ t, exec (.killRelease p) s = .next t ∧ Answered s t p ⟨.ok, []⟩ ∧
                ownEffect s t =
                  { s with
                    authority := { s.authority with latch := false }
                    recorder :=
                      { s.recorder with conditions := { s.recorder.conditions with kill := false } }.append
                        (deviceRecord s.now .kill .cleared s.authority.kill.mask.toNat) }))

/-- AUTH_SETUP (R76, R83) and GRANT_SET (R137). -/
def Obligations.AuthorityRecordsAreStoredWhole : Prop :=
  DeniedWithoutRight .authSetup rowAuthSetup ∧ DeniedWithoutRight .grantSet rowGrantSet ∧
    ∀ (s : State) (p : Port) (r : Request),
      (Admitted s p rowAuthSetup r →
        let knee := max (-40) (min 150 (r.s2 12))
        let cut := max (-35) (min 149 (r.s2 14))
        let window := if r.u2 4 = 0 then 0 else max 10 (min 3600 (r.u2 4))
        (cut ≤ knee → ∃ t, exec (.authSetup p) s = .next t ∧ Refused s t p .range) ∧
          (knee < cut → ∃ t, exec (.authSetup p) s = .next t ∧ Answered s t p ⟨.ok, []⟩ ∧
            ownEffect s t =
              { s with
                authority :=
                  { s.authority with
                    settings :=
                      { failsafeCommercial := min 12000 (r.u2 0), failsafeAuthority := min 12000 (r.u2 2), window
                        upAbs := max 1 (min 1000 (r.u2 6)), upRel := r.u1 8, downAbs := max 1 (min 1000 (r.u2 9))
                        downRel := r.u1 11, knee, cut }
                    presence := if window = 0 then .disabled else .seconds window } })) ∧
        (Admitted s p rowGrantSet r →
          ((2 ≤ r.u1 0 ∨ 2 ≤ r.u1 1 ∨ 2 ≤ r.u1 2 ∨ 2 ≤ r.u1 3 ∨ 2 ≤ r.u1 4) →
            ∃ t, exec (.grantSet p) s = .next t ∧ Refused s t p .range) ∧
            ∀ g : GrantMap, r.u1 0 = holderCode g.curve → r.u1 1 = holderCode g.zoneSetup →
              r.u1 2 = holderCode g.faultSetup → r.u1 3 = holderCode g.clock → r.u1 4 = holderCode g.driveTiming →
              let withdrawn := g.curve ≠ s.store.grants.curve ∧ s.ambient.setupPending = true
              ∃ t, exec (.grantSet p) s = .next t ∧
                Answered s t p
                  ⟨.ok, [BitVec.ofNat 8 (r.u1 0), BitVec.ofNat 8 (r.u1 1), BitVec.ofNat 8 (r.u1 2),
                    BitVec.ofNat 8 (r.u1 3), BitVec.ofNat 8 (r.u1 4), if withdrawn then 1 else 0]⟩ ∧
                ownEffect s t =
                  { s with
                    store := { s.store with grants := g }
                    attention := { s.attention with grant := s.attention.grant || decide (g ≠ s.store.grants) }
                    ambient :=
                      if withdrawn then { s.ambient with staged := s.ambient.working, setupPending := false }
                      else s.ambient })

/-- FAULT_SETUP (R114, R115), with the lockouts it causes (R99, R101, R113). That a kind on its way to clearing which locks the zone
under an unchanged Q keeps its count, as R115 gives and against a sentence of R113, is the model's reading, log 32. -/
def Obligations.FaultSetupStoresLocksAndRequalifies : Prop :=
  DeniedWithoutRight .faultSetup rowFaultSetup ∧
    ∀ (s : State) (p : Port) (r : Request), Admitted s p rowFaultSetup r →
      let mask : ZoneMask := BitVec.ofNat 16 (r.u2 0)
      let codes := r.u1 4 ≤ 1 ∧ (r.u1 5 = 1 ∨ r.u1 5 = 2) ∧ (r.u1 6 = 0 ∨ r.u1 6 = 2) ∧ (r.u1 7 = 0 ∨ r.u1 7 = 2)
      let ordered := mask = 0 ∨ r.u1 2 < r.u1 3
      (¬(codes ∧ ordered) → ∃ t, exec (.faultSetup p) s = .next t ∧ Refused s t p .range) ∧
        ∀ open_ short stuck overtemp : Reaction, codes → ordered → r.u1 4 = open_.code → r.u1 5 = short.code →
          r.u1 6 = stuck.code → r.u1 7 = overtemp.code →
          let q := max 2 (min 15 (r.u1 8))
          let locks (z : Zone) := mask.getLsbD z.val = true ∧ s.installed z = true ∧ s.lockedOut z = false ∧
            ((s.entry z .shortString).asserted = true ∧ (s.monitor.zones.get z).shortReaction ≠ .off ∧ short = .off ∨
              (s.entry z .stuckOn).asserted = true ∧ (s.monitor.zones.get z).stuckReaction ≠ .off ∧ stuck = .off ∨
              (s.entry z .overtemp).asserted = true ∧ (s.monitor.zones.get z).overtempReaction ≠ .off ∧
                overtemp = .off)
          ∃ t, exec (.faultSetup p) s = .next t ∧ Answered s t p ⟨.ok, []⟩ ∧
            ownEffect s t =
              { s with
                monitor := { s.monitor with limit := q, zones := t.monitor.zones }
                drive := { s.drive with zones := t.drive.zones }
                recorder := { s.recorder with table := t.recorder.table } } ∧
            ∀ z,
              (∀ k, t.entry z k =
                { s.entry z k with
                  count :=
                    if q = s.monitor.limit then (s.entry z k).count
                    else if (s.entry z k).asserted then q else 0 }) ∧
                (mask.getLsbD z.val = false → t.monitor.zones.get z = s.monitor.zones.get z) ∧
                (mask.getLsbD z.val = true →
                  let stored : MonitorZone :=
                    { s.monitor.zones.get z with
                      openThreshold := r.u1 2, shortThreshold := r.u1 3, openReaction := open_, shortReaction := short
                      stuckReaction := stuck, overtempReaction := overtemp }
                  t.monitor.zones.get z = if locks z then { stored with lockout := true, window := .idle } else stored) ∧
                t.drive.zones.get z =
                  if locks z then { s.drive.zones.get z with hold := true, supplyEnable := false }
                  else s.drive.zones.get z

/-- ZONE_REARM (R116, R101), with the resolve expiry that comes next for a zone whose lockout ended: it is raised from a present
level of 0 under the up-slew, or goes to its target as a FORCE zone, also where none has blanked it since the lockout. That P_z and
the duty stand as they are between rearm and expiry (R2) is the model's reading, log 30. -/
def Obligations.RearmClearsCountsAssertsAndLockout : Prop :=
  DeniedWithoutRight .zoneRearm rowZoneRearm ∧
    ∀ (s : State) (p : Port) (r : Request), Admitted s p rowZoneRearm r →
      (16 ≤ r.u1 0 → ∃ t, exec (.zoneRearm p) s = .next t ∧ Refused s t p .range) ∧
        ∀ z : Zone, r.u1 0 = z.val →
          (s.installed z = false → ∃ t, exec (.zoneRearm p) s = .next t ∧ Refused s t p .notFound) ∧
            (s.installed z = true →
              let rearmed (k : FaultKind) : FaultEntry := { s.entry z k with count := 0, asserted := false }
              ∃ t, exec (.zoneRearm p) s = .next t ∧ Answered s t p ⟨.ok, []⟩ ∧
                ownEffect s t =
                  { s with
                    recorder :=
                      ({ s.recorder with
                        table := s.recorder.table.set z
                          ⟨rearmed .openString, rearmed .shortString, rearmed .stuckOn, rearmed .overtemp,
                            rearmed .thermFault⟩ } : Recorder).appendAll
                        (([.openString, .shortString, .stuckOn, .overtemp, .thermFault].filter fun k =>
                          (s.entry z k).asserted).map fun k => zoneRecord s.now z k .cleared 0)
                    monitor :=
                      { s.monitor with
                        zones := s.monitor.zones.set z { s.monitor.zones.get z with lockout := false } }
                    drive :=
                      if s.lockedOut z then
                        { s.drive with
                          zones := s.drive.zones.set z { s.drive.zones.get z with supplyEnable := true } }
                      else s.drive
                    resolver :=
                      if s.lockedOut z then s.resolver.set z { s.resolver.get z with fromZero := true }
                      else s.resolver } ∧
                ∃ u, exec .resolveExpiry t = .next u ∧
                  let x := u.resolver.get z
                  let up := s.authority.settings.upAbs
                  let rise := if s.ambient.filtered = none ∨ s.ambient.grade = 0 then max 1 (up / 2) else up
                  let blanked := (∃ e ∈ s.authority.stack, Covers e .blank z) ∨ KillCovers s.authority z ∨
                    (s.resolver.get z).operator = .off
                  let forced := ∃ e ∈ s.authority.stack, Covers e .force z
                  x.fromZero = false ∧
                    (s.lockedOut z = true → (blanked → x.present = 0) ∧ (¬blanked → forced → x.present = x.target) ∧
                      (¬blanked → ¬forced → x.present = min x.target rise)))

/-- The per-port requests: JOURNAL_READ with the bytes of every record (R126, R128, R153), ATTN_READ with the line that follows it
(R157, R158) and ATTN_MASK (R159); and what each of the nine causes is on each port (R156), the BATTERY cause also by the battery
class where the conditions follow their owners. -/
def Obligations.PerPortRequestsActOnTheirPortAlone : Prop :=
  ∀ (s : State) (p : Port) (r : Request),
    (JournalLaw s → Admitted s p rowJournalRead r →
      let u := s.recorder.unread.get p
      let n := min 4 u
      ∃ t d, exec (.journalRead p) s = .next t ∧
        Answered s t p
          ⟨.ok, BitVec.ofNat 8 (s.recorder.missed.get p) :: BitVec.ofNat 8 n :: BitVec.ofNat 8 (u - n) ::
            BitVec.ofNat 8 s.recorder.journal.length :: d⟩ ∧
        d = (((s.recorder.journal.drop (s.recorder.journal.length - u)).take n).map JournalRecord.bytes).flatten ∧
        d.length = 12 * n ∧
        (∀ i x, i < n → (s.recorder.journal.drop (s.recorder.journal.length - u))[i]? = some x → RecordAt d (12 * i) x) ∧
        ownEffect s t =
          { s with
            recorder :=
              { s.recorder with
                unread := s.recorder.unread.set p (u - n), missed := s.recorder.missed.set p 0 } }) ∧
      (Admitted s p rowAttnRead r →
        ∃ t d, exec (.attnRead p) s = .next t ∧ Answered s t p ⟨.ok, d⟩ ∧ d.length = 4 ∧
          (∀ c : Cause, (BitVec.ofNat 9 (fieldAt d 0 2)).getLsbD (c.code - 1) = s.pendingCause p c) ∧
          fieldAt d 0 2 < 512 ∧ fieldAt d 2 1 = s.highestCause p ∧
          (p = .a → s.attention.lastExpired ≤ 255 → fieldAt d 3 1 = s.attention.lastExpired) ∧
          (p = .o → fieldAt d 3 1 = 0) ∧
          ownEffect s t =
            { s with
              attention :=
                { s.attention with
                  grade := s.attention.grade.set p false
                  overrideExpired := if p = .a then false else s.attention.overrideExpired
                  grant := if p = .o then false else s.attention.grant } }) ∧
      (Admitted s p rowAttnMask r →
        ∃ t, exec (.attnMask p) s = .next t ∧ Answered s t p ⟨.ok, []⟩ ∧
          ownEffect s t =
            { s with attention := { s.attention with mask := s.attention.mask.set p (BitVec.ofNat 9 (r.u2 0)) } }) ∧
      ((s.pendingCause p .kill = true ↔ KillInForce s.authority) ∧
        (s.pendingCause p .failsafe = true ↔ s.authority.mode = .failsafe) ∧
        (s.pendingCause p .schedule = true ↔ ¬ScheduleValid s) ∧
        (s.pendingCause p .clock = true ↔ s.clock.valid = false) ∧
        (s.pendingCause p .journal = true ↔ 0 < s.recorder.unread.get p) ∧
        (s.pendingCause p .overrideExpired = true ↔ p = .a ∧ s.attention.overrideExpired = true) ∧
        (s.pendingCause p .grant = true ↔ p = .o ∧ s.attention.grant = true) ∧
        (s.pendingCause p .grade = true ↔ s.attention.grade.get p = true) ∧
        (s.pendingCause p .battery = true ↔ s.recorder.conditions.batteryLow = true) ∧
        (ConditionsLaw s →
          (s.pendingCause p .battery = true ↔ s.supply.battery = some 0 ∨ s.supply.battery = some 1))) ∧
      (∀ c : Cause, (c, c.code) ∈ causeCodes) ∧
      (s.attnActive p = true ↔ s.supply.inReset = false ∧ 0 < s.highestCause p) ∧
      ∀ c : Cause, s.highestCause p = c.code ↔
        s.pendingCause p c = true ∧ (s.attention.mask.get p).getLsbD (c.code - 1) = true ∧
          ∀ b : Cause, b.code < c.code →
            ¬(s.pendingCause p b = true ∧ (s.attention.mask.get p).getLsbD (b.code - 1) = true)

/-- DRIVE_SETUP (R87, R97, R98). The sync watch time is held as 0 or 100: the model's choice, log 6. -/
def Obligations.DriveSetupStoresTheTimingWhole : Prop :=
  DeniedWithoutRight .driveSetup rowDriveSetup ∧
    ∀ (s : State) (p : Port) (r : Request), Admitted s p rowDriveSetup r →
      ((4 ≤ r.u1 0 ∨ 4 ≤ r.u1 1 ∨ 2 ≤ r.u1 2) → ∃ t, exec (.driveSetup p) s = .next t ∧ Refused s t p .range) ∧
        ∀ (f : BaseFrequency) (e : EdgeMode) (m : SwapMode), r.u1 0 = f.code → r.u1 1 = e.code → r.u1 2 = m.code →
          let watched := s.drive.swapMode = .frame ∧ s.drive.edgeMode ≠ .disabled
          let watches := m = .frame ∧ e ≠ .disabled
          let ends := s.drive.syncLost = true ∧ ¬watches
          ∃ t, exec (.driveSetup p) s = .next t ∧ Answered s t p ⟨.ok, []⟩ ∧
            ownEffect s t =
              { s with
                drive :=
                  { s.drive with
                    baseFrequency := f, edgeMode := e, swapMode := m
                    syncLost := if ends then false else s.drive.syncLost
                    syncWatch := if watches ∧ ¬watched then 0 else s.drive.syncWatch
                    zones := .ofFn fun z =>
                      if m = s.drive.swapMode then s.drive.zones.get z
                      else { s.drive.zones.get z with armed := false } }
                recorder :=
                  if ends then
                    { s.recorder with conditions := { s.recorder.conditions with syncLost := false } }.append
                      (deviceRecord s.now .syncLost .cleared 0)
                  else s.recorder }

/-! ### The Supply Supervisor -/

/-- The reset sources (R160, R163), what the start of a main reset does (R142, R149, R161, R165), and DEVICE_RESET (R164);
a source that holds keeps the main reset: MAIN_RESET_END does not arise under it (R163) and, by the model's choice of log 2,
changes nothing there, nor where no main reset is under way. The acknowledge is the model's own record, log 20. What the main
domain holds between start and end is the model's choice, log 16; that a retention loss sets its latch alone, and only while the
main supply is low, is the model's choice, log 17. -/
def Obligations.SourcesBeginAndHoldAMainReset : Prop :=
  let begins (s t : State) : Prop :=
    t = { s with ports := t.ports, store := { s.store with serving := none }, drive := t.drive, supply := t.supply } ∧
      (∀ p, t.ports.get p =
        { s.ports.get p with receive := .idle, slot := none, snapshot := none, lastAck := false }) ∧
      t.drive = { s.drive with zones := t.drive.zones } ∧
      (∀ z, t.drive.zones.get z = { s.drive.zones.get z with supplyEnable := false } ∧ t.zoneOutput z = none) ∧
      ∀ p, t.attnActive p = false ∧ ∀ i, t.readByte p i = 0xFF
  (∀ s : State, s.supply.supplyLow = false → ∃ t, exec .brownOut s = .next t ∧ begins s t ∧
    t.supply = { s.supply with inReset := true, lastSource := .power, uptime := 0, supplyLow := true }) ∧
    (∀ s : State, s.supply.pinLow = false → ∃ t, exec .resetNAssert s = .next t ∧ begins s t ∧
      t.supply = { s.supply with inReset := true, lastSource := .pin, uptime := 0, pinLow := true }) ∧
    (∀ (s : State) (r : Request), Admitted s .a rowDeviceReset r →
      ∃ t, exec (.deviceReset .a) s = .next t ∧ begins s t ∧
        t.supply = { s.supply with inReset := true, lastSource := .request, uptime := 0 }) ∧
    (∀ s : State, exec .mainSupplyRise s = .next { s with supply := { s.supply with supplyLow := false } }) ∧
    (∀ s : State, exec .resetNRelease s = .next { s with supply := { s.supply with pinLow := false } }) ∧
    (∀ (s : State) (a o : Fin 4),
      s.supply.supplyLow = true ∨ s.supply.pinLow = true ∨ s.supply.inReset = false →
      exec (.mainResetEnd a o) s = .next s) ∧
    (∀ s t, SourceLaw s → step s = .next t → SourceLaw t) ∧
    ∀ s : State, s.supply.supplyLow = true →
      exec .retentionLoss s = .next { s with supply := { s.supply with retentionLost := true } }

/-- The end of a main reset (R160, R163, R165): the backup domain kept, or at its total-loss values after a loss; every block at
its reset values; the ports at their straps; BACKUP_LOST first in the journal after a loss; then the epoch evaluation. Of an
entry's parity nothing is known but that it is a function of its fields, log 9. The model's own fields are the conversion in
progress (log 19), the last acknowledge (log 20), the count rate in force (log 21), the queue, which a reset keeps (log 28), and
the mark of a rearmed zone (log 30); that the backup fields are lost here and not before is its choice, log 17. -/
def Obligations.MainResetEndRestoresEveryBlock : Prop :=
  ∀ (s : State) (strapA strapO : Fin 4), s.supply.inReset = true → s.supply.supplyLow = false →
    s.supply.pinLow = false →
    let lost := s.supply.retentionLost
    let fields : EpochFields :=
      { inUse := false, months := 0xFFF, weekdays := 0x7F, start := 0, commercial := 0, authority := 0, fallback := 0
        dark := false }
    let clock : ClockUnit :=
      if lost then
        { time := ⟨2000, 1, 1, 0, 0, 0⟩, prescaler := 0, valid := false, failed := false
          epochs := .ofFn fun _ => ⟨fields, fields.parity, false⟩, active := none }
      else s.clock
    let kill : KillSetup := if lost then ⟨.level, .activeLow, 0xFFFF⟩ else s.authority.kill
    let settings : AuthSettings :=
      if lost then
        { failsafeCommercial := 300, failsafeAuthority := 1500, window := 300, upAbs := 4, upRel := 3, downAbs := 8
          downRel := 8, knee := 70, cut := 95 }
      else s.authority.settings
    let port (address : Address) : LinkPort :=
      { address, receive := .idle, slot := none, response := ⟨.none, []⟩, snapshot := none, lastAck := false }
    let setup : EstimatorSetup := ⟨⟨⟨true, 1024⟩, ⟨true, 1024⟩, ⟨true, 1024⟩⟩, 4⟩
    ∃ t m, exec (.mainResetEnd strapA strapO) s = .next t ∧ Evaluated m t ∧
      m =
        { ports := ⟨port (0x2C + BitVec.ofNat 7 strapA.val), port (0x3A + BitVec.ofNat 7 strapO.val)⟩
          store :=
            ⟨none, if lost then { curve := .o, zoneSetup := .a, faultSetup := .o, clock := .a, driveTiming := .o }
              else s.store.grants⟩
          clock
          ambient :=
            { staged := setup, working := setup, setupPending := false
              sensors := .ofFn fun _ => { pulses := 0, count := 0, lux := 0, reason := .noSample, stuck := 0 }
              fused := 0, filtered := none, spike := 0, grade := 0
              curve :=
                ⟨⟨0, 40⟩, ⟨10, 80⟩, ⟨100, 200⟩, ⟨1000, 600⟩, ⟨5000, 1500⟩, ⟨15000, 3000⟩, ⟨40000, 5000⟩, ⟨80000, 6500⟩,
                  ⟨120000, 7000⟩⟩ }
          authority :=
            { stack := [], presence := if settings.window = 0 then .disabled else .seconds settings.window
              mode := .failsafe, origin := .reset, eblank := none, latch := false, kill, settings }
          resolver := .ofFn fun _ =>
            { present := 0, target := 0, ceiling := 0, reason := .none, duty := 0, gain := 256, operator := .on
              fromZero := false }
          drive :=
            { zones := .ofFn fun z =>
                { record :=
                    { installed := false, cls := .commercial, polarity := .activeHigh, lmax := 5000, minOn := 0
                      phase := 256 * z.val }
                  activeDuty := 0, dutyBuffer := 0, swapPending := false, armed := false, activeMode := .float
                  bufferedMode := .float, compare := 0, acc := 0, polarity := .activeHigh, firstPeriod := false
                  phase := 256 * z.val, hold := false, supplyEnable := false }
              sharedCount := 0, baseFrequency := .hz1200, countRate := .hz1200, edgeMode := .disabled, swapMode := .auto
              syncLost := false, syncWatch := 0, fsync := none }
          monitor :=
            { zones := .ofFn fun _ =>
                { openThreshold := 32, shortThreshold := 224, openReaction := .none, shortReaction := .off
                  stuckReaction := .off, overtempReaction := .none, latest := none, lockout := false, window := .idle }
              limit := 6, scanCut := settings.cut, scan := none }
          recorder :=
            { table := .ofFn fun _ =>
                ⟨⟨0, false, 0, none⟩, ⟨0, false, 0, none⟩, ⟨0, false, 0, none⟩, ⟨0, false, 0, none⟩, ⟨0, false, 0, none⟩⟩
              conditions :=
                { sensorInvalid := ⟨false, false, false⟩, syncLost := false, kill := false
                  clockInvalid := !clock.valid, failsafe := true, batteryLow := false, backupLost := lost }
              journal := if lost then [deviceRecord (.uptime 0) .backupLost .event 0] else []
              unread := if lost then ⟨1, 1⟩ else ⟨0, 0⟩, missed := ⟨0, 0⟩ }
          attention :=
            { mask := ⟨0x1FF, 0x1FF⟩, grade := ⟨false, false⟩, overrideExpired := false, grant := false
              lastExpired := 0 }
          supply :=
            { s.supply with
              cause := if lost then .totalLoss else s.supply.lastSource
              backupLost := lost, battery := none, uptime := 0, inReset := false, retentionLost := false }
          pending := s.pending }

end
end

