-- ==== Sys2Proof/Laws/Banks.lean ====
section
/-! SUPPORT. Reading a bank after building or changing it. -/

namespace Sys2Proof.Machine

variable {α : Type}

@[simp] theorem ZoneBank.get_ofFn (f : Zone → α) (i : Zone) : (ZoneBank.ofFn f).get i = f i := by
  fin_cases i <;> rfl

@[simp] theorem ZoneBank.ofFn_get (b : ZoneBank α) : ZoneBank.ofFn b.get = b := rfl

theorem ZoneBank.ext_get (b c : ZoneBank α) (h : ∀ i, b.get i = c.get i) : b = c := by
  rw [← ofFn_get b, ← ofFn_get c, funext h]

@[simp] theorem ZoneBank.get_set (b : ZoneBank α) (i j : Zone) (x : α) :
    (b.set i x).get j = if j = i then x else b.get j := by
  simp [ZoneBank.set]

@[simp] theorem ZoneBank.get_mapIdx (b : ZoneBank α) (f : Zone → α → α) (j : Zone) : (b.mapIdx f).get j = f j (b.get j) := by
  simp [ZoneBank.mapIdx]

@[simp] theorem EpochBank.get_ofFn (f : Fin 24 → α) (i : Fin 24) : (EpochBank.ofFn f).get i = f i := by
  fin_cases i <;> rfl

@[simp] theorem EpochBank.ofFn_get (b : EpochBank α) : EpochBank.ofFn b.get = b := rfl

theorem EpochBank.ext_get (b c : EpochBank α) (h : ∀ i, b.get i = c.get i) : b = c := by
  rw [← ofFn_get b, ← ofFn_get c, funext h]

@[simp] theorem EpochBank.get_set (b : EpochBank α) (i j : Fin 24) (x : α) :
    (b.set i x).get j = if j = i then x else b.get j := by
  simp [EpochBank.set]

@[simp] theorem EpochBank.get_mapIdx (b : EpochBank α) (f : Fin 24 → α → α) (j : Fin 24) : (b.mapIdx f).get j = f j (b.get j) := by
  simp [EpochBank.mapIdx]

@[simp] theorem SensorBank.get_ofFn (f : Fin 3 → α) (i : Fin 3) : (SensorBank.ofFn f).get i = f i := by
  fin_cases i <;> rfl

@[simp] theorem SensorBank.ofFn_get (b : SensorBank α) : SensorBank.ofFn b.get = b := rfl

theorem SensorBank.ext_get (b c : SensorBank α) (h : ∀ i, b.get i = c.get i) : b = c := by
  rw [← ofFn_get b, ← ofFn_get c, funext h]

@[simp] theorem SensorBank.get_set (b : SensorBank α) (i j : Fin 3) (x : α) :
    (b.set i x).get j = if j = i then x else b.get j := by
  simp [SensorBank.set]

@[simp] theorem SensorBank.get_mapIdx (b : SensorBank α) (f : Fin 3 → α → α) (j : Fin 3) : (b.mapIdx f).get j = f j (b.get j) := by
  simp [SensorBank.mapIdx]

@[simp] theorem PointBank.get_ofFn (f : Fin 9 → α) (i : Fin 9) : (PointBank.ofFn f).get i = f i := by
  fin_cases i <;> rfl

@[simp] theorem PointBank.ofFn_get (b : PointBank α) : PointBank.ofFn b.get = b := rfl

theorem PointBank.ext_get (b c : PointBank α) (h : ∀ i, b.get i = c.get i) : b = c := by
  rw [← ofFn_get b, ← ofFn_get c, funext h]

@[simp] theorem PointBank.get_set (b : PointBank α) (i j : Fin 9) (x : α) :
    (b.set i x).get j = if j = i then x else b.get j := by
  simp [PointBank.set]

@[simp] theorem PointBank.get_mapIdx (b : PointBank α) (f : Fin 9 → α → α) (j : Fin 9) : (b.mapIdx f).get j = f j (b.get j) := by
  simp [PointBank.mapIdx]

@[simp] theorem PortPair.get_set (b : PortPair α) (p q : Port) (x : α) :
    (b.set p x).get q = if q = p then x else b.get q := by
  cases p <;> cases q <;> rfl

@[simp] theorem PortPair.get_map (b : PortPair α) (f : α → α) (p : Port) : (b.map f).get p = f (b.get p) := by
  cases p <;> rfl

theorem PortPair.ext_get (b c : PortPair α) (h : ∀ p, b.get p = c.get p) : b = c := by
  have ha := h .a
  have ho := h .o
  cases b; cases c; simp_all [PortPair.get]

@[simp] theorem PortPair.set_get_self (b : PortPair α) (p : Port) : b.set p (b.get p) = b := by
  cases p <;> rfl

@[simp] theorem KindBank.get_set (b : KindBank α) (k j : FaultKind) (x : α) :
    (b.set k x).get j = if j = k then x else b.get j := by
  cases k <;> cases j <;> rfl

@[simp] theorem KindBank.get_map (b : KindBank α) (f : α → α) (k : FaultKind) : (b.map f).get k = f (b.get k) := by
  cases k <;> rfl

theorem KindBank.ext_get (b c : KindBank α) (h : ∀ k, b.get k = c.get k) : b = c := by
  have h1 := h .openString
  have h2 := h .shortString
  have h3 := h .stuckOn
  have h4 := h .overtemp
  have h5 := h .thermFault
  cases b; cases c; simp_all [KindBank.get]

theorem mem_allKinds (k : FaultKind) : k ∈ allKinds := by cases k <;> decide

theorem mem_allZones (z : Zone) : z ∈ allZones := by fin_cases z <;> decide

theorem mem_allEntries (i : Fin 24) : i ∈ allEntries := by fin_cases i <;> decide

theorem mem_toList (b : PointBank α) (x : α) : x ∈ b.toList ↔ ∃ i, b.get i = x := by
  constructor
  · intro h
    simp only [PointBank.toList, List.mem_cons, List.not_mem_nil, or_false] at h
    rcases h with h | h | h | h | h | h | h | h | h
    · exact ⟨0, h.symm⟩
    · exact ⟨1, h.symm⟩
    · exact ⟨2, h.symm⟩
    · exact ⟨3, h.symm⟩
    · exact ⟨4, h.symm⟩
    · exact ⟨5, h.symm⟩
    · exact ⟨6, h.symm⟩
    · exact ⟨7, h.symm⟩
    · exact ⟨8, h.symm⟩
  · rintro ⟨i, rfl⟩
    fin_cases i <;> simp [PointBank.toList, PointBank.get]

end Sys2Proof.Machine
end

