-- ==== Sys2Proof/Laws/State.lean ====
section
/-! SUPPORT. One lemma per field per update of State, each true by rfl. -/

namespace Sys2Proof.Machine

variable (s : State)

@[simp] theorem State.withPorts_ports (x : PortPair LinkPort) : (s.withPorts x).ports = x := rfl
@[simp] theorem State.withPorts_store (x : PortPair LinkPort) : (s.withPorts x).store = s.store := rfl
@[simp] theorem State.withPorts_clock (x : PortPair LinkPort) : (s.withPorts x).clock = s.clock := rfl
@[simp] theorem State.withPorts_ambient (x : PortPair LinkPort) : (s.withPorts x).ambient = s.ambient := rfl
@[simp] theorem State.withPorts_authority (x : PortPair LinkPort) : (s.withPorts x).authority = s.authority := rfl
@[simp] theorem State.withPorts_resolver (x : PortPair LinkPort) : (s.withPorts x).resolver = s.resolver := rfl
@[simp] theorem State.withPorts_drive (x : PortPair LinkPort) : (s.withPorts x).drive = s.drive := rfl
@[simp] theorem State.withPorts_monitor (x : PortPair LinkPort) : (s.withPorts x).monitor = s.monitor := rfl
@[simp] theorem State.withPorts_recorder (x : PortPair LinkPort) : (s.withPorts x).recorder = s.recorder := rfl
@[simp] theorem State.withPorts_attention (x : PortPair LinkPort) : (s.withPorts x).attention = s.attention := rfl
@[simp] theorem State.withPorts_supply (x : PortPair LinkPort) : (s.withPorts x).supply = s.supply := rfl
@[simp] theorem State.withPorts_pending (x : PortPair LinkPort) : (s.withPorts x).pending = s.pending := rfl
@[simp] theorem State.withPorts_self : s.withPorts s.ports = s := rfl
@[simp] theorem State.withPorts_twice (x y : PortPair LinkPort) : (s.withPorts x).withPorts y = s.withPorts y := rfl

@[simp] theorem State.withStore_ports (x : TableStore) : (s.withStore x).ports = s.ports := rfl
@[simp] theorem State.withStore_store (x : TableStore) : (s.withStore x).store = x := rfl
@[simp] theorem State.withStore_clock (x : TableStore) : (s.withStore x).clock = s.clock := rfl
@[simp] theorem State.withStore_ambient (x : TableStore) : (s.withStore x).ambient = s.ambient := rfl
@[simp] theorem State.withStore_authority (x : TableStore) : (s.withStore x).authority = s.authority := rfl
@[simp] theorem State.withStore_resolver (x : TableStore) : (s.withStore x).resolver = s.resolver := rfl
@[simp] theorem State.withStore_drive (x : TableStore) : (s.withStore x).drive = s.drive := rfl
@[simp] theorem State.withStore_monitor (x : TableStore) : (s.withStore x).monitor = s.monitor := rfl
@[simp] theorem State.withStore_recorder (x : TableStore) : (s.withStore x).recorder = s.recorder := rfl
@[simp] theorem State.withStore_attention (x : TableStore) : (s.withStore x).attention = s.attention := rfl
@[simp] theorem State.withStore_supply (x : TableStore) : (s.withStore x).supply = s.supply := rfl
@[simp] theorem State.withStore_pending (x : TableStore) : (s.withStore x).pending = s.pending := rfl
@[simp] theorem State.withStore_self : s.withStore s.store = s := rfl
@[simp] theorem State.withStore_twice (x y : TableStore) : (s.withStore x).withStore y = s.withStore y := rfl

@[simp] theorem State.withClock_ports (x : ClockUnit) : (s.withClock x).ports = s.ports := rfl
@[simp] theorem State.withClock_store (x : ClockUnit) : (s.withClock x).store = s.store := rfl
@[simp] theorem State.withClock_clock (x : ClockUnit) : (s.withClock x).clock = x := rfl
@[simp] theorem State.withClock_ambient (x : ClockUnit) : (s.withClock x).ambient = s.ambient := rfl
@[simp] theorem State.withClock_authority (x : ClockUnit) : (s.withClock x).authority = s.authority := rfl
@[simp] theorem State.withClock_resolver (x : ClockUnit) : (s.withClock x).resolver = s.resolver := rfl
@[simp] theorem State.withClock_drive (x : ClockUnit) : (s.withClock x).drive = s.drive := rfl
@[simp] theorem State.withClock_monitor (x : ClockUnit) : (s.withClock x).monitor = s.monitor := rfl
@[simp] theorem State.withClock_recorder (x : ClockUnit) : (s.withClock x).recorder = s.recorder := rfl
@[simp] theorem State.withClock_attention (x : ClockUnit) : (s.withClock x).attention = s.attention := rfl
@[simp] theorem State.withClock_supply (x : ClockUnit) : (s.withClock x).supply = s.supply := rfl
@[simp] theorem State.withClock_pending (x : ClockUnit) : (s.withClock x).pending = s.pending := rfl
@[simp] theorem State.withClock_self : s.withClock s.clock = s := rfl
@[simp] theorem State.withClock_twice (x y : ClockUnit) : (s.withClock x).withClock y = s.withClock y := rfl

@[simp] theorem State.withAmbient_ports (x : Ambient) : (s.withAmbient x).ports = s.ports := rfl
@[simp] theorem State.withAmbient_store (x : Ambient) : (s.withAmbient x).store = s.store := rfl
@[simp] theorem State.withAmbient_clock (x : Ambient) : (s.withAmbient x).clock = s.clock := rfl
@[simp] theorem State.withAmbient_ambient (x : Ambient) : (s.withAmbient x).ambient = x := rfl
@[simp] theorem State.withAmbient_authority (x : Ambient) : (s.withAmbient x).authority = s.authority := rfl
@[simp] theorem State.withAmbient_resolver (x : Ambient) : (s.withAmbient x).resolver = s.resolver := rfl
@[simp] theorem State.withAmbient_drive (x : Ambient) : (s.withAmbient x).drive = s.drive := rfl
@[simp] theorem State.withAmbient_monitor (x : Ambient) : (s.withAmbient x).monitor = s.monitor := rfl
@[simp] theorem State.withAmbient_recorder (x : Ambient) : (s.withAmbient x).recorder = s.recorder := rfl
@[simp] theorem State.withAmbient_attention (x : Ambient) : (s.withAmbient x).attention = s.attention := rfl
@[simp] theorem State.withAmbient_supply (x : Ambient) : (s.withAmbient x).supply = s.supply := rfl
@[simp] theorem State.withAmbient_pending (x : Ambient) : (s.withAmbient x).pending = s.pending := rfl
@[simp] theorem State.withAmbient_self : s.withAmbient s.ambient = s := rfl
@[simp] theorem State.withAmbient_twice (x y : Ambient) : (s.withAmbient x).withAmbient y = s.withAmbient y := rfl

@[simp] theorem State.withAuthority_ports (x : Authority) : (s.withAuthority x).ports = s.ports := rfl
@[simp] theorem State.withAuthority_store (x : Authority) : (s.withAuthority x).store = s.store := rfl
@[simp] theorem State.withAuthority_clock (x : Authority) : (s.withAuthority x).clock = s.clock := rfl
@[simp] theorem State.withAuthority_ambient (x : Authority) : (s.withAuthority x).ambient = s.ambient := rfl
@[simp] theorem State.withAuthority_authority (x : Authority) : (s.withAuthority x).authority = x := rfl
@[simp] theorem State.withAuthority_resolver (x : Authority) : (s.withAuthority x).resolver = s.resolver := rfl
@[simp] theorem State.withAuthority_drive (x : Authority) : (s.withAuthority x).drive = s.drive := rfl
@[simp] theorem State.withAuthority_monitor (x : Authority) : (s.withAuthority x).monitor = s.monitor := rfl
@[simp] theorem State.withAuthority_recorder (x : Authority) : (s.withAuthority x).recorder = s.recorder := rfl
@[simp] theorem State.withAuthority_attention (x : Authority) : (s.withAuthority x).attention = s.attention := rfl
@[simp] theorem State.withAuthority_supply (x : Authority) : (s.withAuthority x).supply = s.supply := rfl
@[simp] theorem State.withAuthority_pending (x : Authority) : (s.withAuthority x).pending = s.pending := rfl
@[simp] theorem State.withAuthority_self : s.withAuthority s.authority = s := rfl
@[simp] theorem State.withAuthority_twice (x y : Authority) : (s.withAuthority x).withAuthority y = s.withAuthority y := rfl

@[simp] theorem State.withResolver_ports (x : ZoneBank ResolverZone) : (s.withResolver x).ports = s.ports := rfl
@[simp] theorem State.withResolver_store (x : ZoneBank ResolverZone) : (s.withResolver x).store = s.store := rfl
@[simp] theorem State.withResolver_clock (x : ZoneBank ResolverZone) : (s.withResolver x).clock = s.clock := rfl
@[simp] theorem State.withResolver_ambient (x : ZoneBank ResolverZone) : (s.withResolver x).ambient = s.ambient := rfl
@[simp] theorem State.withResolver_authority (x : ZoneBank ResolverZone) : (s.withResolver x).authority = s.authority := rfl
@[simp] theorem State.withResolver_resolver (x : ZoneBank ResolverZone) : (s.withResolver x).resolver = x := rfl
@[simp] theorem State.withResolver_drive (x : ZoneBank ResolverZone) : (s.withResolver x).drive = s.drive := rfl
@[simp] theorem State.withResolver_monitor (x : ZoneBank ResolverZone) : (s.withResolver x).monitor = s.monitor := rfl
@[simp] theorem State.withResolver_recorder (x : ZoneBank ResolverZone) : (s.withResolver x).recorder = s.recorder := rfl
@[simp] theorem State.withResolver_attention (x : ZoneBank ResolverZone) : (s.withResolver x).attention = s.attention := rfl
@[simp] theorem State.withResolver_supply (x : ZoneBank ResolverZone) : (s.withResolver x).supply = s.supply := rfl
@[simp] theorem State.withResolver_pending (x : ZoneBank ResolverZone) : (s.withResolver x).pending = s.pending := rfl
@[simp] theorem State.withResolver_self : s.withResolver s.resolver = s := rfl
@[simp] theorem State.withResolver_twice (x y : ZoneBank ResolverZone) : (s.withResolver x).withResolver y = s.withResolver y := rfl

@[simp] theorem State.withDrive_ports (x : Drive) : (s.withDrive x).ports = s.ports := rfl
@[simp] theorem State.withDrive_store (x : Drive) : (s.withDrive x).store = s.store := rfl
@[simp] theorem State.withDrive_clock (x : Drive) : (s.withDrive x).clock = s.clock := rfl
@[simp] theorem State.withDrive_ambient (x : Drive) : (s.withDrive x).ambient = s.ambient := rfl
@[simp] theorem State.withDrive_authority (x : Drive) : (s.withDrive x).authority = s.authority := rfl
@[simp] theorem State.withDrive_resolver (x : Drive) : (s.withDrive x).resolver = s.resolver := rfl
@[simp] theorem State.withDrive_drive (x : Drive) : (s.withDrive x).drive = x := rfl
@[simp] theorem State.withDrive_monitor (x : Drive) : (s.withDrive x).monitor = s.monitor := rfl
@[simp] theorem State.withDrive_recorder (x : Drive) : (s.withDrive x).recorder = s.recorder := rfl
@[simp] theorem State.withDrive_attention (x : Drive) : (s.withDrive x).attention = s.attention := rfl
@[simp] theorem State.withDrive_supply (x : Drive) : (s.withDrive x).supply = s.supply := rfl
@[simp] theorem State.withDrive_pending (x : Drive) : (s.withDrive x).pending = s.pending := rfl
@[simp] theorem State.withDrive_self : s.withDrive s.drive = s := rfl
@[simp] theorem State.withDrive_twice (x y : Drive) : (s.withDrive x).withDrive y = s.withDrive y := rfl

@[simp] theorem State.withMonitor_ports (x : Monitor) : (s.withMonitor x).ports = s.ports := rfl
@[simp] theorem State.withMonitor_store (x : Monitor) : (s.withMonitor x).store = s.store := rfl
@[simp] theorem State.withMonitor_clock (x : Monitor) : (s.withMonitor x).clock = s.clock := rfl
@[simp] theorem State.withMonitor_ambient (x : Monitor) : (s.withMonitor x).ambient = s.ambient := rfl
@[simp] theorem State.withMonitor_authority (x : Monitor) : (s.withMonitor x).authority = s.authority := rfl
@[simp] theorem State.withMonitor_resolver (x : Monitor) : (s.withMonitor x).resolver = s.resolver := rfl
@[simp] theorem State.withMonitor_drive (x : Monitor) : (s.withMonitor x).drive = s.drive := rfl
@[simp] theorem State.withMonitor_monitor (x : Monitor) : (s.withMonitor x).monitor = x := rfl
@[simp] theorem State.withMonitor_recorder (x : Monitor) : (s.withMonitor x).recorder = s.recorder := rfl
@[simp] theorem State.withMonitor_attention (x : Monitor) : (s.withMonitor x).attention = s.attention := rfl
@[simp] theorem State.withMonitor_supply (x : Monitor) : (s.withMonitor x).supply = s.supply := rfl
@[simp] theorem State.withMonitor_pending (x : Monitor) : (s.withMonitor x).pending = s.pending := rfl
@[simp] theorem State.withMonitor_self : s.withMonitor s.monitor = s := rfl
@[simp] theorem State.withMonitor_twice (x y : Monitor) : (s.withMonitor x).withMonitor y = s.withMonitor y := rfl

@[simp] theorem State.withRecorder_ports (x : Recorder) : (s.withRecorder x).ports = s.ports := rfl
@[simp] theorem State.withRecorder_store (x : Recorder) : (s.withRecorder x).store = s.store := rfl
@[simp] theorem State.withRecorder_clock (x : Recorder) : (s.withRecorder x).clock = s.clock := rfl
@[simp] theorem State.withRecorder_ambient (x : Recorder) : (s.withRecorder x).ambient = s.ambient := rfl
@[simp] theorem State.withRecorder_authority (x : Recorder) : (s.withRecorder x).authority = s.authority := rfl
@[simp] theorem State.withRecorder_resolver (x : Recorder) : (s.withRecorder x).resolver = s.resolver := rfl
@[simp] theorem State.withRecorder_drive (x : Recorder) : (s.withRecorder x).drive = s.drive := rfl
@[simp] theorem State.withRecorder_monitor (x : Recorder) : (s.withRecorder x).monitor = s.monitor := rfl
@[simp] theorem State.withRecorder_recorder (x : Recorder) : (s.withRecorder x).recorder = x := rfl
@[simp] theorem State.withRecorder_attention (x : Recorder) : (s.withRecorder x).attention = s.attention := rfl
@[simp] theorem State.withRecorder_supply (x : Recorder) : (s.withRecorder x).supply = s.supply := rfl
@[simp] theorem State.withRecorder_pending (x : Recorder) : (s.withRecorder x).pending = s.pending := rfl
@[simp] theorem State.withRecorder_self : s.withRecorder s.recorder = s := rfl
@[simp] theorem State.withRecorder_twice (x y : Recorder) : (s.withRecorder x).withRecorder y = s.withRecorder y := rfl

@[simp] theorem State.withAttention_ports (x : Attention) : (s.withAttention x).ports = s.ports := rfl
@[simp] theorem State.withAttention_store (x : Attention) : (s.withAttention x).store = s.store := rfl
@[simp] theorem State.withAttention_clock (x : Attention) : (s.withAttention x).clock = s.clock := rfl
@[simp] theorem State.withAttention_ambient (x : Attention) : (s.withAttention x).ambient = s.ambient := rfl
@[simp] theorem State.withAttention_authority (x : Attention) : (s.withAttention x).authority = s.authority := rfl
@[simp] theorem State.withAttention_resolver (x : Attention) : (s.withAttention x).resolver = s.resolver := rfl
@[simp] theorem State.withAttention_drive (x : Attention) : (s.withAttention x).drive = s.drive := rfl
@[simp] theorem State.withAttention_monitor (x : Attention) : (s.withAttention x).monitor = s.monitor := rfl
@[simp] theorem State.withAttention_recorder (x : Attention) : (s.withAttention x).recorder = s.recorder := rfl
@[simp] theorem State.withAttention_attention (x : Attention) : (s.withAttention x).attention = x := rfl
@[simp] theorem State.withAttention_supply (x : Attention) : (s.withAttention x).supply = s.supply := rfl
@[simp] theorem State.withAttention_pending (x : Attention) : (s.withAttention x).pending = s.pending := rfl
@[simp] theorem State.withAttention_self : s.withAttention s.attention = s := rfl
@[simp] theorem State.withAttention_twice (x y : Attention) : (s.withAttention x).withAttention y = s.withAttention y := rfl

@[simp] theorem State.withSupply_ports (x : Supply) : (s.withSupply x).ports = s.ports := rfl
@[simp] theorem State.withSupply_store (x : Supply) : (s.withSupply x).store = s.store := rfl
@[simp] theorem State.withSupply_clock (x : Supply) : (s.withSupply x).clock = s.clock := rfl
@[simp] theorem State.withSupply_ambient (x : Supply) : (s.withSupply x).ambient = s.ambient := rfl
@[simp] theorem State.withSupply_authority (x : Supply) : (s.withSupply x).authority = s.authority := rfl
@[simp] theorem State.withSupply_resolver (x : Supply) : (s.withSupply x).resolver = s.resolver := rfl
@[simp] theorem State.withSupply_drive (x : Supply) : (s.withSupply x).drive = s.drive := rfl
@[simp] theorem State.withSupply_monitor (x : Supply) : (s.withSupply x).monitor = s.monitor := rfl
@[simp] theorem State.withSupply_recorder (x : Supply) : (s.withSupply x).recorder = s.recorder := rfl
@[simp] theorem State.withSupply_attention (x : Supply) : (s.withSupply x).attention = s.attention := rfl
@[simp] theorem State.withSupply_supply (x : Supply) : (s.withSupply x).supply = x := rfl
@[simp] theorem State.withSupply_pending (x : Supply) : (s.withSupply x).pending = s.pending := rfl
@[simp] theorem State.withSupply_self : s.withSupply s.supply = s := rfl
@[simp] theorem State.withSupply_twice (x y : Supply) : (s.withSupply x).withSupply y = s.withSupply y := rfl

@[simp] theorem State.withPending_ports (x : List Instr) : (s.withPending x).ports = s.ports := rfl
@[simp] theorem State.withPending_store (x : List Instr) : (s.withPending x).store = s.store := rfl
@[simp] theorem State.withPending_clock (x : List Instr) : (s.withPending x).clock = s.clock := rfl
@[simp] theorem State.withPending_ambient (x : List Instr) : (s.withPending x).ambient = s.ambient := rfl
@[simp] theorem State.withPending_authority (x : List Instr) : (s.withPending x).authority = s.authority := rfl
@[simp] theorem State.withPending_resolver (x : List Instr) : (s.withPending x).resolver = s.resolver := rfl
@[simp] theorem State.withPending_drive (x : List Instr) : (s.withPending x).drive = s.drive := rfl
@[simp] theorem State.withPending_monitor (x : List Instr) : (s.withPending x).monitor = s.monitor := rfl
@[simp] theorem State.withPending_recorder (x : List Instr) : (s.withPending x).recorder = s.recorder := rfl
@[simp] theorem State.withPending_attention (x : List Instr) : (s.withPending x).attention = s.attention := rfl
@[simp] theorem State.withPending_supply (x : List Instr) : (s.withPending x).supply = s.supply := rfl
@[simp] theorem State.withPending_pending (x : List Instr) : (s.withPending x).pending = x := rfl
@[simp] theorem State.withPending_self : s.withPending s.pending = s := rfl
@[simp] theorem State.withPending_twice (x y : List Instr) : (s.withPending x).withPending y = s.withPending y := rfl

end Sys2Proof.Machine
end

