-- ==== Sys2Proof/Laws/Frames.lean ====
section
/-! SUPPORT. The parts of State that each shared operation of Ops.lean leaves as they are: `<op>_frame` says which parts it can change, and one lemma a part says that the others stay. -/

namespace Sys2Proof.Machine

section

variable (s : State)

@[simp] theorem State.modChannel_ports (z : Zone) (f : Channel → Channel) : (s.modChannel z f).ports = s.ports := rfl
@[simp] theorem State.modChannel_store (z : Zone) (f : Channel → Channel) : (s.modChannel z f).store = s.store := rfl
@[simp] theorem State.modChannel_clock (z : Zone) (f : Channel → Channel) : (s.modChannel z f).clock = s.clock := rfl
@[simp] theorem State.modChannel_ambient (z : Zone) (f : Channel → Channel) : (s.modChannel z f).ambient = s.ambient := rfl
@[simp] theorem State.modChannel_authority (z : Zone) (f : Channel → Channel) : (s.modChannel z f).authority = s.authority := rfl
@[simp] theorem State.modChannel_resolver (z : Zone) (f : Channel → Channel) : (s.modChannel z f).resolver = s.resolver := rfl
@[simp] theorem State.modChannel_monitor (z : Zone) (f : Channel → Channel) : (s.modChannel z f).monitor = s.monitor := rfl
@[simp] theorem State.modChannel_recorder (z : Zone) (f : Channel → Channel) : (s.modChannel z f).recorder = s.recorder := rfl
@[simp] theorem State.modChannel_attention (z : Zone) (f : Channel → Channel) : (s.modChannel z f).attention = s.attention := rfl
@[simp] theorem State.modChannel_supply (z : Zone) (f : Channel → Channel) : (s.modChannel z f).supply = s.supply := rfl
@[simp] theorem State.modChannel_pending (z : Zone) (f : Channel → Channel) : (s.modChannel z f).pending = s.pending := rfl

@[simp] theorem State.modMonitor_ports (z : Zone) (f : MonitorZone → MonitorZone) : (s.modMonitor z f).ports = s.ports := rfl
@[simp] theorem State.modMonitor_store (z : Zone) (f : MonitorZone → MonitorZone) : (s.modMonitor z f).store = s.store := rfl
@[simp] theorem State.modMonitor_clock (z : Zone) (f : MonitorZone → MonitorZone) : (s.modMonitor z f).clock = s.clock := rfl
@[simp] theorem State.modMonitor_ambient (z : Zone) (f : MonitorZone → MonitorZone) : (s.modMonitor z f).ambient = s.ambient := rfl
@[simp] theorem State.modMonitor_authority (z : Zone) (f : MonitorZone → MonitorZone) : (s.modMonitor z f).authority = s.authority := rfl
@[simp] theorem State.modMonitor_resolver (z : Zone) (f : MonitorZone → MonitorZone) : (s.modMonitor z f).resolver = s.resolver := rfl
@[simp] theorem State.modMonitor_drive (z : Zone) (f : MonitorZone → MonitorZone) : (s.modMonitor z f).drive = s.drive := rfl
@[simp] theorem State.modMonitor_recorder (z : Zone) (f : MonitorZone → MonitorZone) : (s.modMonitor z f).recorder = s.recorder := rfl
@[simp] theorem State.modMonitor_attention (z : Zone) (f : MonitorZone → MonitorZone) : (s.modMonitor z f).attention = s.attention := rfl
@[simp] theorem State.modMonitor_supply (z : Zone) (f : MonitorZone → MonitorZone) : (s.modMonitor z f).supply = s.supply := rfl
@[simp] theorem State.modMonitor_pending (z : Zone) (f : MonitorZone → MonitorZone) : (s.modMonitor z f).pending = s.pending := rfl

@[simp] theorem State.setEntry_ports (z : Zone) (k : FaultKind) (e : FaultEntry) : (s.setEntry z k e).ports = s.ports := rfl
@[simp] theorem State.setEntry_store (z : Zone) (k : FaultKind) (e : FaultEntry) : (s.setEntry z k e).store = s.store := rfl
@[simp] theorem State.setEntry_clock (z : Zone) (k : FaultKind) (e : FaultEntry) : (s.setEntry z k e).clock = s.clock := rfl
@[simp] theorem State.setEntry_ambient (z : Zone) (k : FaultKind) (e : FaultEntry) : (s.setEntry z k e).ambient = s.ambient := rfl
@[simp] theorem State.setEntry_authority (z : Zone) (k : FaultKind) (e : FaultEntry) : (s.setEntry z k e).authority = s.authority := rfl
@[simp] theorem State.setEntry_resolver (z : Zone) (k : FaultKind) (e : FaultEntry) : (s.setEntry z k e).resolver = s.resolver := rfl
@[simp] theorem State.setEntry_drive (z : Zone) (k : FaultKind) (e : FaultEntry) : (s.setEntry z k e).drive = s.drive := rfl
@[simp] theorem State.setEntry_monitor (z : Zone) (k : FaultKind) (e : FaultEntry) : (s.setEntry z k e).monitor = s.monitor := rfl
@[simp] theorem State.setEntry_attention (z : Zone) (k : FaultKind) (e : FaultEntry) : (s.setEntry z k e).attention = s.attention := rfl
@[simp] theorem State.setEntry_supply (z : Zone) (k : FaultKind) (e : FaultEntry) : (s.setEntry z k e).supply = s.supply := rfl
@[simp] theorem State.setEntry_pending (z : Zone) (k : FaultKind) (e : FaultEntry) : (s.setEntry z k e).pending = s.pending := rfl

@[simp] theorem State.setCount_ports (z : Zone) (k : FaultKind) (n : Nat) : (s.setCount z k n).ports = s.ports := rfl
@[simp] theorem State.setCount_store (z : Zone) (k : FaultKind) (n : Nat) : (s.setCount z k n).store = s.store := rfl
@[simp] theorem State.setCount_clock (z : Zone) (k : FaultKind) (n : Nat) : (s.setCount z k n).clock = s.clock := rfl
@[simp] theorem State.setCount_ambient (z : Zone) (k : FaultKind) (n : Nat) : (s.setCount z k n).ambient = s.ambient := rfl
@[simp] theorem State.setCount_authority (z : Zone) (k : FaultKind) (n : Nat) : (s.setCount z k n).authority = s.authority := rfl
@[simp] theorem State.setCount_resolver (z : Zone) (k : FaultKind) (n : Nat) : (s.setCount z k n).resolver = s.resolver := rfl
@[simp] theorem State.setCount_drive (z : Zone) (k : FaultKind) (n : Nat) : (s.setCount z k n).drive = s.drive := rfl
@[simp] theorem State.setCount_monitor (z : Zone) (k : FaultKind) (n : Nat) : (s.setCount z k n).monitor = s.monitor := rfl
@[simp] theorem State.setCount_attention (z : Zone) (k : FaultKind) (n : Nat) : (s.setCount z k n).attention = s.attention := rfl
@[simp] theorem State.setCount_supply (z : Zone) (k : FaultKind) (n : Nat) : (s.setCount z k n).supply = s.supply := rfl
@[simp] theorem State.setCount_pending (z : Zone) (k : FaultKind) (n : Nat) : (s.setCount z k n).pending = s.pending := rfl

@[simp] theorem State.report_ports (r : Report) : (s.report r).ports = s.ports := rfl
@[simp] theorem State.report_store (r : Report) : (s.report r).store = s.store := rfl
@[simp] theorem State.report_clock (r : Report) : (s.report r).clock = s.clock := rfl
@[simp] theorem State.report_ambient (r : Report) : (s.report r).ambient = s.ambient := rfl
@[simp] theorem State.report_authority (r : Report) : (s.report r).authority = s.authority := rfl
@[simp] theorem State.report_resolver (r : Report) : (s.report r).resolver = s.resolver := rfl
@[simp] theorem State.report_drive (r : Report) : (s.report r).drive = s.drive := rfl
@[simp] theorem State.report_monitor (r : Report) : (s.report r).monitor = s.monitor := rfl
@[simp] theorem State.report_attention (r : Report) : (s.report r).attention = s.attention := rfl
@[simp] theorem State.report_supply (r : Report) : (s.report r).supply = s.supply := rfl
@[simp] theorem State.report_pending (r : Report) : (s.report r).pending = s.pending := rfl

@[simp] theorem State.modConditions_ports (f : Conditions → Conditions) : (s.modConditions f).ports = s.ports := rfl
@[simp] theorem State.modConditions_store (f : Conditions → Conditions) : (s.modConditions f).store = s.store := rfl
@[simp] theorem State.modConditions_clock (f : Conditions → Conditions) : (s.modConditions f).clock = s.clock := rfl
@[simp] theorem State.modConditions_ambient (f : Conditions → Conditions) : (s.modConditions f).ambient = s.ambient := rfl
@[simp] theorem State.modConditions_authority (f : Conditions → Conditions) : (s.modConditions f).authority = s.authority := rfl
@[simp] theorem State.modConditions_resolver (f : Conditions → Conditions) : (s.modConditions f).resolver = s.resolver := rfl
@[simp] theorem State.modConditions_drive (f : Conditions → Conditions) : (s.modConditions f).drive = s.drive := rfl
@[simp] theorem State.modConditions_monitor (f : Conditions → Conditions) : (s.modConditions f).monitor = s.monitor := rfl
@[simp] theorem State.modConditions_attention (f : Conditions → Conditions) : (s.modConditions f).attention = s.attention := rfl
@[simp] theorem State.modConditions_supply (f : Conditions → Conditions) : (s.modConditions f).supply = s.supply := rfl
@[simp] theorem State.modConditions_pending (f : Conditions → Conditions) : (s.modConditions f).pending = s.pending := rfl

@[simp] theorem State.killBegins_ports (m : ZoneMask) (zs : Zone → Bool) : (s.killBegins m zs).ports = s.ports := rfl
@[simp] theorem State.killBegins_store (m : ZoneMask) (zs : Zone → Bool) : (s.killBegins m zs).store = s.store := rfl
@[simp] theorem State.killBegins_clock (m : ZoneMask) (zs : Zone → Bool) : (s.killBegins m zs).clock = s.clock := rfl
@[simp] theorem State.killBegins_ambient (m : ZoneMask) (zs : Zone → Bool) : (s.killBegins m zs).ambient = s.ambient := rfl
@[simp] theorem State.killBegins_authority (m : ZoneMask) (zs : Zone → Bool) : (s.killBegins m zs).authority = s.authority := rfl
@[simp] theorem State.killBegins_resolver (m : ZoneMask) (zs : Zone → Bool) : (s.killBegins m zs).resolver = s.resolver := rfl
@[simp] theorem State.killBegins_monitor (m : ZoneMask) (zs : Zone → Bool) : (s.killBegins m zs).monitor = s.monitor := rfl
@[simp] theorem State.killBegins_attention (m : ZoneMask) (zs : Zone → Bool) : (s.killBegins m zs).attention = s.attention := rfl
@[simp] theorem State.killBegins_supply (m : ZoneMask) (zs : Zone → Bool) : (s.killBegins m zs).supply = s.supply := rfl
@[simp] theorem State.killBegins_pending (m : ZoneMask) (zs : Zone → Bool) : (s.killBegins m zs).pending = s.pending := rfl

@[simp] theorem State.killEnds_ports (m : ZoneMask) : (s.killEnds m).ports = s.ports := rfl
@[simp] theorem State.killEnds_store (m : ZoneMask) : (s.killEnds m).store = s.store := rfl
@[simp] theorem State.killEnds_clock (m : ZoneMask) : (s.killEnds m).clock = s.clock := rfl
@[simp] theorem State.killEnds_ambient (m : ZoneMask) : (s.killEnds m).ambient = s.ambient := rfl
@[simp] theorem State.killEnds_authority (m : ZoneMask) : (s.killEnds m).authority = s.authority := rfl
@[simp] theorem State.killEnds_resolver (m : ZoneMask) : (s.killEnds m).resolver = s.resolver := rfl
@[simp] theorem State.killEnds_drive (m : ZoneMask) : (s.killEnds m).drive = s.drive := rfl
@[simp] theorem State.killEnds_monitor (m : ZoneMask) : (s.killEnds m).monitor = s.monitor := rfl
@[simp] theorem State.killEnds_attention (m : ZoneMask) : (s.killEnds m).attention = s.attention := rfl
@[simp] theorem State.killEnds_supply (m : ZoneMask) : (s.killEnds m).supply = s.supply := rfl
@[simp] theorem State.killEnds_pending (m : ZoneMask) : (s.killEnds m).pending = s.pending := rfl

theorem State.setAuthority_frame (a : Authority) : ∃ x0 x1 x2, s.setAuthority a = ((s.withAuthority x0).withDrive x1).withRecorder x2 := by
  refine ⟨(s.setAuthority a).authority, (s.setAuthority a).drive, (s.setAuthority a).recorder, ?_⟩
  simp only [State.setAuthority]
  split <;> (try split) <;> rfl

@[simp] theorem State.setAuthority_ports (a : Authority) : (s.setAuthority a).ports = s.ports := by
  obtain ⟨_, _, _, h⟩ := s.setAuthority_frame a; rw [h]; rfl
@[simp] theorem State.setAuthority_store (a : Authority) : (s.setAuthority a).store = s.store := by
  obtain ⟨_, _, _, h⟩ := s.setAuthority_frame a; rw [h]; rfl
@[simp] theorem State.setAuthority_clock (a : Authority) : (s.setAuthority a).clock = s.clock := by
  obtain ⟨_, _, _, h⟩ := s.setAuthority_frame a; rw [h]; rfl
@[simp] theorem State.setAuthority_ambient (a : Authority) : (s.setAuthority a).ambient = s.ambient := by
  obtain ⟨_, _, _, h⟩ := s.setAuthority_frame a; rw [h]; rfl
@[simp] theorem State.setAuthority_resolver (a : Authority) : (s.setAuthority a).resolver = s.resolver := by
  obtain ⟨_, _, _, h⟩ := s.setAuthority_frame a; rw [h]; rfl
@[simp] theorem State.setAuthority_monitor (a : Authority) : (s.setAuthority a).monitor = s.monitor := by
  obtain ⟨_, _, _, h⟩ := s.setAuthority_frame a; rw [h]; rfl
@[simp] theorem State.setAuthority_attention (a : Authority) : (s.setAuthority a).attention = s.attention := by
  obtain ⟨_, _, _, h⟩ := s.setAuthority_frame a; rw [h]; rfl
@[simp] theorem State.setAuthority_supply (a : Authority) : (s.setAuthority a).supply = s.supply := by
  obtain ⟨_, _, _, h⟩ := s.setAuthority_frame a; rw [h]; rfl
@[simp] theorem State.setAuthority_pending (a : Authority) : (s.setAuthority a).pending = s.pending := by
  obtain ⟨_, _, _, h⟩ := s.setAuthority_frame a; rw [h]; rfl

@[simp] theorem State.lockOut_ports (z : Zone) : (s.lockOut z).ports = s.ports := rfl
@[simp] theorem State.lockOut_store (z : Zone) : (s.lockOut z).store = s.store := rfl
@[simp] theorem State.lockOut_clock (z : Zone) : (s.lockOut z).clock = s.clock := rfl
@[simp] theorem State.lockOut_ambient (z : Zone) : (s.lockOut z).ambient = s.ambient := rfl
@[simp] theorem State.lockOut_authority (z : Zone) : (s.lockOut z).authority = s.authority := rfl
@[simp] theorem State.lockOut_resolver (z : Zone) : (s.lockOut z).resolver = s.resolver := rfl
@[simp] theorem State.lockOut_recorder (z : Zone) : (s.lockOut z).recorder = s.recorder := rfl
@[simp] theorem State.lockOut_attention (z : Zone) : (s.lockOut z).attention = s.attention := rfl
@[simp] theorem State.lockOut_supply (z : Zone) : (s.lockOut z).supply = s.supply := rfl
@[simp] theorem State.lockOut_pending (z : Zone) : (s.lockOut z).pending = s.pending := rfl

@[simp] theorem State.assertFault_ports (z : Zone) (k : FaultKind) (d : Nat) : (s.assertFault z k d).ports = s.ports := rfl
@[simp] theorem State.assertFault_store (z : Zone) (k : FaultKind) (d : Nat) : (s.assertFault z k d).store = s.store := rfl
@[simp] theorem State.assertFault_clock (z : Zone) (k : FaultKind) (d : Nat) : (s.assertFault z k d).clock = s.clock := rfl
@[simp] theorem State.assertFault_ambient (z : Zone) (k : FaultKind) (d : Nat) : (s.assertFault z k d).ambient = s.ambient := rfl
@[simp] theorem State.assertFault_authority (z : Zone) (k : FaultKind) (d : Nat) : (s.assertFault z k d).authority = s.authority := rfl
@[simp] theorem State.assertFault_resolver (z : Zone) (k : FaultKind) (d : Nat) : (s.assertFault z k d).resolver = s.resolver := rfl
@[simp] theorem State.assertFault_drive (z : Zone) (k : FaultKind) (d : Nat) : (s.assertFault z k d).drive = s.drive := rfl
@[simp] theorem State.assertFault_monitor (z : Zone) (k : FaultKind) (d : Nat) : (s.assertFault z k d).monitor = s.monitor := rfl
@[simp] theorem State.assertFault_attention (z : Zone) (k : FaultKind) (d : Nat) : (s.assertFault z k d).attention = s.attention := rfl
@[simp] theorem State.assertFault_supply (z : Zone) (k : FaultKind) (d : Nat) : (s.assertFault z k d).supply = s.supply := rfl
@[simp] theorem State.assertFault_pending (z : Zone) (k : FaultKind) (d : Nat) : (s.assertFault z k d).pending = s.pending := rfl

theorem State.qualify_frame (z : Zone) (k : FaultKind) (o : SampleOutcome) (d : Nat) : ∃ x0 x1 x2, s.qualify z k o d = ((s.withRecorder x0).withMonitor x1).withDrive x2 := by
  refine ⟨(s.qualify z k o d).recorder, (s.qualify z k o d).monitor, (s.qualify z k o d).drive, ?_⟩
  simp only [State.qualify]
  split <;> (repeat' split) <;> rfl

@[simp] theorem State.qualify_ports (z : Zone) (k : FaultKind) (o : SampleOutcome) (d : Nat) : (s.qualify z k o d).ports = s.ports := by
  obtain ⟨_, _, _, h⟩ := s.qualify_frame z k o d; rw [h]; rfl
@[simp] theorem State.qualify_store (z : Zone) (k : FaultKind) (o : SampleOutcome) (d : Nat) : (s.qualify z k o d).store = s.store := by
  obtain ⟨_, _, _, h⟩ := s.qualify_frame z k o d; rw [h]; rfl
@[simp] theorem State.qualify_clock (z : Zone) (k : FaultKind) (o : SampleOutcome) (d : Nat) : (s.qualify z k o d).clock = s.clock := by
  obtain ⟨_, _, _, h⟩ := s.qualify_frame z k o d; rw [h]; rfl
@[simp] theorem State.qualify_ambient (z : Zone) (k : FaultKind) (o : SampleOutcome) (d : Nat) : (s.qualify z k o d).ambient = s.ambient := by
  obtain ⟨_, _, _, h⟩ := s.qualify_frame z k o d; rw [h]; rfl
@[simp] theorem State.qualify_authority (z : Zone) (k : FaultKind) (o : SampleOutcome) (d : Nat) : (s.qualify z k o d).authority = s.authority := by
  obtain ⟨_, _, _, h⟩ := s.qualify_frame z k o d; rw [h]; rfl
@[simp] theorem State.qualify_resolver (z : Zone) (k : FaultKind) (o : SampleOutcome) (d : Nat) : (s.qualify z k o d).resolver = s.resolver := by
  obtain ⟨_, _, _, h⟩ := s.qualify_frame z k o d; rw [h]; rfl
@[simp] theorem State.qualify_attention (z : Zone) (k : FaultKind) (o : SampleOutcome) (d : Nat) : (s.qualify z k o d).attention = s.attention := by
  obtain ⟨_, _, _, h⟩ := s.qualify_frame z k o d; rw [h]; rfl
@[simp] theorem State.qualify_supply (z : Zone) (k : FaultKind) (o : SampleOutcome) (d : Nat) : (s.qualify z k o d).supply = s.supply := by
  obtain ⟨_, _, _, h⟩ := s.qualify_frame z k o d; rw [h]; rfl
@[simp] theorem State.qualify_pending (z : Zone) (k : FaultKind) (o : SampleOutcome) (d : Nat) : (s.qualify z k o d).pending = s.pending := by
  obtain ⟨_, _, _, h⟩ := s.qualify_frame z k o d; rw [h]; rfl

@[simp] theorem State.loadPresence_ports : (s.loadPresence).ports = s.ports := rfl
@[simp] theorem State.loadPresence_store : (s.loadPresence).store = s.store := rfl
@[simp] theorem State.loadPresence_clock : (s.loadPresence).clock = s.clock := rfl
@[simp] theorem State.loadPresence_ambient : (s.loadPresence).ambient = s.ambient := rfl
@[simp] theorem State.loadPresence_resolver : (s.loadPresence).resolver = s.resolver := rfl
@[simp] theorem State.loadPresence_drive : (s.loadPresence).drive = s.drive := rfl
@[simp] theorem State.loadPresence_monitor : (s.loadPresence).monitor = s.monitor := rfl
@[simp] theorem State.loadPresence_recorder : (s.loadPresence).recorder = s.recorder := rfl
@[simp] theorem State.loadPresence_attention : (s.loadPresence).attention = s.attention := rfl
@[simp] theorem State.loadPresence_supply : (s.loadPresence).supply = s.supply := rfl
@[simp] theorem State.loadPresence_pending : (s.loadPresence).pending = s.pending := rfl

theorem State.authorityHeard_frame : ∃ x0 x1, s.authorityHeard = (s.withAuthority x0).withRecorder x1 := by
  refine ⟨(s.authorityHeard).authority, (s.authorityHeard).recorder, ?_⟩
  simp only [State.authorityHeard]
  split <;> rfl

@[simp] theorem State.authorityHeard_ports : (s.authorityHeard).ports = s.ports := by
  obtain ⟨_, _, h⟩ := s.authorityHeard_frame; rw [h]; rfl
@[simp] theorem State.authorityHeard_store : (s.authorityHeard).store = s.store := by
  obtain ⟨_, _, h⟩ := s.authorityHeard_frame; rw [h]; rfl
@[simp] theorem State.authorityHeard_clock : (s.authorityHeard).clock = s.clock := by
  obtain ⟨_, _, h⟩ := s.authorityHeard_frame; rw [h]; rfl
@[simp] theorem State.authorityHeard_ambient : (s.authorityHeard).ambient = s.ambient := by
  obtain ⟨_, _, h⟩ := s.authorityHeard_frame; rw [h]; rfl
@[simp] theorem State.authorityHeard_resolver : (s.authorityHeard).resolver = s.resolver := by
  obtain ⟨_, _, h⟩ := s.authorityHeard_frame; rw [h]; rfl
@[simp] theorem State.authorityHeard_drive : (s.authorityHeard).drive = s.drive := by
  obtain ⟨_, _, h⟩ := s.authorityHeard_frame; rw [h]; rfl
@[simp] theorem State.authorityHeard_monitor : (s.authorityHeard).monitor = s.monitor := by
  obtain ⟨_, _, h⟩ := s.authorityHeard_frame; rw [h]; rfl
@[simp] theorem State.authorityHeard_attention : (s.authorityHeard).attention = s.attention := by
  obtain ⟨_, _, h⟩ := s.authorityHeard_frame; rw [h]; rfl
@[simp] theorem State.authorityHeard_supply : (s.authorityHeard).supply = s.supply := by
  obtain ⟨_, _, h⟩ := s.authorityHeard_frame; rw [h]; rfl
@[simp] theorem State.authorityHeard_pending : (s.authorityHeard).pending = s.pending := by
  obtain ⟨_, _, h⟩ := s.authorityHeard_frame; rw [h]; rfl

theorem State.presenceRunOut_frame : ∃ x0 x1, s.presenceRunOut = (s.withAuthority x0).withRecorder x1 := by
  refine ⟨(s.presenceRunOut).authority, (s.presenceRunOut).recorder, ?_⟩
  simp only [State.presenceRunOut]
  split <;> rfl

@[simp] theorem State.presenceRunOut_ports : (s.presenceRunOut).ports = s.ports := by
  obtain ⟨_, _, h⟩ := s.presenceRunOut_frame; rw [h]; rfl
@[simp] theorem State.presenceRunOut_store : (s.presenceRunOut).store = s.store := by
  obtain ⟨_, _, h⟩ := s.presenceRunOut_frame; rw [h]; rfl
@[simp] theorem State.presenceRunOut_clock : (s.presenceRunOut).clock = s.clock := by
  obtain ⟨_, _, h⟩ := s.presenceRunOut_frame; rw [h]; rfl
@[simp] theorem State.presenceRunOut_ambient : (s.presenceRunOut).ambient = s.ambient := by
  obtain ⟨_, _, h⟩ := s.presenceRunOut_frame; rw [h]; rfl
@[simp] theorem State.presenceRunOut_resolver : (s.presenceRunOut).resolver = s.resolver := by
  obtain ⟨_, _, h⟩ := s.presenceRunOut_frame; rw [h]; rfl
@[simp] theorem State.presenceRunOut_drive : (s.presenceRunOut).drive = s.drive := by
  obtain ⟨_, _, h⟩ := s.presenceRunOut_frame; rw [h]; rfl
@[simp] theorem State.presenceRunOut_monitor : (s.presenceRunOut).monitor = s.monitor := by
  obtain ⟨_, _, h⟩ := s.presenceRunOut_frame; rw [h]; rfl
@[simp] theorem State.presenceRunOut_attention : (s.presenceRunOut).attention = s.attention := by
  obtain ⟨_, _, h⟩ := s.presenceRunOut_frame; rw [h]; rfl
@[simp] theorem State.presenceRunOut_supply : (s.presenceRunOut).supply = s.supply := by
  obtain ⟨_, _, h⟩ := s.presenceRunOut_frame; rw [h]; rfl
@[simp] theorem State.presenceRunOut_pending : (s.presenceRunOut).pending = s.pending := by
  obtain ⟨_, _, h⟩ := s.presenceRunOut_frame; rw [h]; rfl

theorem State.expireOverrides_frame : ∃ x0 x1, s.expireOverrides = (s.withAuthority x0).withAttention x1 := by
  refine ⟨(s.expireOverrides).authority, (s.expireOverrides).attention, ?_⟩
  simp only [State.expireOverrides]
  split <;> rfl

@[simp] theorem State.expireOverrides_ports : (s.expireOverrides).ports = s.ports := by
  obtain ⟨_, _, h⟩ := s.expireOverrides_frame; rw [h]; rfl
@[simp] theorem State.expireOverrides_store : (s.expireOverrides).store = s.store := by
  obtain ⟨_, _, h⟩ := s.expireOverrides_frame; rw [h]; rfl
@[simp] theorem State.expireOverrides_clock : (s.expireOverrides).clock = s.clock := by
  obtain ⟨_, _, h⟩ := s.expireOverrides_frame; rw [h]; rfl
@[simp] theorem State.expireOverrides_ambient : (s.expireOverrides).ambient = s.ambient := by
  obtain ⟨_, _, h⟩ := s.expireOverrides_frame; rw [h]; rfl
@[simp] theorem State.expireOverrides_resolver : (s.expireOverrides).resolver = s.resolver := by
  obtain ⟨_, _, h⟩ := s.expireOverrides_frame; rw [h]; rfl
@[simp] theorem State.expireOverrides_drive : (s.expireOverrides).drive = s.drive := by
  obtain ⟨_, _, h⟩ := s.expireOverrides_frame; rw [h]; rfl
@[simp] theorem State.expireOverrides_monitor : (s.expireOverrides).monitor = s.monitor := by
  obtain ⟨_, _, h⟩ := s.expireOverrides_frame; rw [h]; rfl
@[simp] theorem State.expireOverrides_recorder : (s.expireOverrides).recorder = s.recorder := by
  obtain ⟨_, _, h⟩ := s.expireOverrides_frame; rw [h]; rfl
@[simp] theorem State.expireOverrides_supply : (s.expireOverrides).supply = s.supply := by
  obtain ⟨_, _, h⟩ := s.expireOverrides_frame; rw [h]; rfl
@[simp] theorem State.expireOverrides_pending : (s.expireOverrides).pending = s.pending := by
  obtain ⟨_, _, h⟩ := s.expireOverrides_frame; rw [h]; rfl

theorem State.endSyncLost_frame : ∃ x0 x1, s.endSyncLost = (s.withDrive x0).withRecorder x1 := by
  refine ⟨(s.endSyncLost).drive, (s.endSyncLost).recorder, ?_⟩
  simp only [State.endSyncLost]
  split <;> rfl

@[simp] theorem State.endSyncLost_ports : (s.endSyncLost).ports = s.ports := by
  obtain ⟨_, _, h⟩ := s.endSyncLost_frame; rw [h]; rfl
@[simp] theorem State.endSyncLost_store : (s.endSyncLost).store = s.store := by
  obtain ⟨_, _, h⟩ := s.endSyncLost_frame; rw [h]; rfl
@[simp] theorem State.endSyncLost_clock : (s.endSyncLost).clock = s.clock := by
  obtain ⟨_, _, h⟩ := s.endSyncLost_frame; rw [h]; rfl
@[simp] theorem State.endSyncLost_ambient : (s.endSyncLost).ambient = s.ambient := by
  obtain ⟨_, _, h⟩ := s.endSyncLost_frame; rw [h]; rfl
@[simp] theorem State.endSyncLost_authority : (s.endSyncLost).authority = s.authority := by
  obtain ⟨_, _, h⟩ := s.endSyncLost_frame; rw [h]; rfl
@[simp] theorem State.endSyncLost_resolver : (s.endSyncLost).resolver = s.resolver := by
  obtain ⟨_, _, h⟩ := s.endSyncLost_frame; rw [h]; rfl
@[simp] theorem State.endSyncLost_monitor : (s.endSyncLost).monitor = s.monitor := by
  obtain ⟨_, _, h⟩ := s.endSyncLost_frame; rw [h]; rfl
@[simp] theorem State.endSyncLost_attention : (s.endSyncLost).attention = s.attention := by
  obtain ⟨_, _, h⟩ := s.endSyncLost_frame; rw [h]; rfl
@[simp] theorem State.endSyncLost_supply : (s.endSyncLost).supply = s.supply := by
  obtain ⟨_, _, h⟩ := s.endSyncLost_frame; rw [h]; rfl
@[simp] theorem State.endSyncLost_pending : (s.endSyncLost).pending = s.pending := by
  obtain ⟨_, _, h⟩ := s.endSyncLost_frame; rw [h]; rfl

theorem State.syncEffects_frame : ∃ x0 x1, s.syncEffects = (s.withDrive x0).withRecorder x1 := by
  refine ⟨(s.syncEffects).drive, (s.syncEffects).recorder, ?_⟩
  obtain ⟨d, r, h⟩ := s.endSyncLost_frame
  simp only [State.syncEffects, h]
  split <;> rfl

@[simp] theorem State.syncEffects_ports : (s.syncEffects).ports = s.ports := by
  obtain ⟨_, _, h⟩ := s.syncEffects_frame; rw [h]; rfl
@[simp] theorem State.syncEffects_store : (s.syncEffects).store = s.store := by
  obtain ⟨_, _, h⟩ := s.syncEffects_frame; rw [h]; rfl
@[simp] theorem State.syncEffects_clock : (s.syncEffects).clock = s.clock := by
  obtain ⟨_, _, h⟩ := s.syncEffects_frame; rw [h]; rfl
@[simp] theorem State.syncEffects_ambient : (s.syncEffects).ambient = s.ambient := by
  obtain ⟨_, _, h⟩ := s.syncEffects_frame; rw [h]; rfl
@[simp] theorem State.syncEffects_authority : (s.syncEffects).authority = s.authority := by
  obtain ⟨_, _, h⟩ := s.syncEffects_frame; rw [h]; rfl
@[simp] theorem State.syncEffects_resolver : (s.syncEffects).resolver = s.resolver := by
  obtain ⟨_, _, h⟩ := s.syncEffects_frame; rw [h]; rfl
@[simp] theorem State.syncEffects_monitor : (s.syncEffects).monitor = s.monitor := by
  obtain ⟨_, _, h⟩ := s.syncEffects_frame; rw [h]; rfl
@[simp] theorem State.syncEffects_attention : (s.syncEffects).attention = s.attention := by
  obtain ⟨_, _, h⟩ := s.syncEffects_frame; rw [h]; rfl
@[simp] theorem State.syncEffects_supply : (s.syncEffects).supply = s.supply := by
  obtain ⟨_, _, h⟩ := s.syncEffects_frame; rw [h]; rfl
@[simp] theorem State.syncEffects_pending : (s.syncEffects).pending = s.pending := by
  obtain ⟨_, _, h⟩ := s.syncEffects_frame; rw [h]; rfl

@[simp] theorem State.beginReset_clock (c : ResetCause) : (s.beginReset c).clock = s.clock := rfl
@[simp] theorem State.beginReset_ambient (c : ResetCause) : (s.beginReset c).ambient = s.ambient := rfl
@[simp] theorem State.beginReset_authority (c : ResetCause) : (s.beginReset c).authority = s.authority := rfl
@[simp] theorem State.beginReset_resolver (c : ResetCause) : (s.beginReset c).resolver = s.resolver := rfl
@[simp] theorem State.beginReset_monitor (c : ResetCause) : (s.beginReset c).monitor = s.monitor := rfl
@[simp] theorem State.beginReset_recorder (c : ResetCause) : (s.beginReset c).recorder = s.recorder := rfl
@[simp] theorem State.beginReset_attention (c : ResetCause) : (s.beginReset c).attention = s.attention := rfl
@[simp] theorem State.beginReset_pending (c : ResetCause) : (s.beginReset c).pending = s.pending := rfl

end

end Sys2Proof.Machine
end

