-- ==== Sys2Proof/Laws/BlockFrames.lean ====
section
/-! SUPPORT. The parts of State that each block's own operations leave as they are, in the same form. -/

namespace Sys2Proof.Machine

/-! ### Clock -/

/-- Appending reports one after another changes the Recorder alone. -/
theorem foldl_report_frame {α : Type} (f : α → Report) (l : List α) (s : State) :
    ∃ r, l.foldl (fun u x => u.report (f x)) s = s.withRecorder r := by
  induction l generalizing s with
  | nil => exact ⟨_, rfl⟩
  | cons x l ih =>
    obtain ⟨r, h⟩ := ih (s.report (f x))
    exact ⟨r, by rw [List.foldl_cons, h]; rfl⟩

section

variable (s : State)

theorem State.reportParity_frame : ∃ x0 x1, s.reportParity = (s.withClock x0).withRecorder x1 := by
  simp only [State.reportParity]
  obtain ⟨r, h⟩ := foldl_report_frame (fun i : Fin 24 => deviceReport .tableParity .event i.val) _ _
  exact ⟨_, r, h⟩

@[simp] theorem State.reportParity_ports : (s.reportParity).ports = s.ports := by
  obtain ⟨_, _, h⟩ := s.reportParity_frame; rw [h]; rfl
@[simp] theorem State.reportParity_store : (s.reportParity).store = s.store := by
  obtain ⟨_, _, h⟩ := s.reportParity_frame; rw [h]; rfl
@[simp] theorem State.reportParity_ambient : (s.reportParity).ambient = s.ambient := by
  obtain ⟨_, _, h⟩ := s.reportParity_frame; rw [h]; rfl
@[simp] theorem State.reportParity_authority : (s.reportParity).authority = s.authority := by
  obtain ⟨_, _, h⟩ := s.reportParity_frame; rw [h]; rfl
@[simp] theorem State.reportParity_resolver : (s.reportParity).resolver = s.resolver := by
  obtain ⟨_, _, h⟩ := s.reportParity_frame; rw [h]; rfl
@[simp] theorem State.reportParity_drive : (s.reportParity).drive = s.drive := by
  obtain ⟨_, _, h⟩ := s.reportParity_frame; rw [h]; rfl
@[simp] theorem State.reportParity_monitor : (s.reportParity).monitor = s.monitor := by
  obtain ⟨_, _, h⟩ := s.reportParity_frame; rw [h]; rfl
@[simp] theorem State.reportParity_attention : (s.reportParity).attention = s.attention := by
  obtain ⟨_, _, h⟩ := s.reportParity_frame; rw [h]; rfl
@[simp] theorem State.reportParity_supply : (s.reportParity).supply = s.supply := by
  obtain ⟨_, _, h⟩ := s.reportParity_frame; rw [h]; rfl
@[simp] theorem State.reportParity_pending : (s.reportParity).pending = s.pending := by
  obtain ⟨_, _, h⟩ := s.reportParity_frame; rw [h]; rfl

theorem State.evaluate_frame : ∃ x0 x1, s.evaluate = (s.withClock x0).withRecorder x1 := by
  refine ⟨(s.evaluate).clock, (s.evaluate).recorder, ?_⟩
  obtain ⟨c, r, h⟩ := s.reportParity_frame
  simp only [State.evaluate, h]
  split <;> (try split) <;> rfl

@[simp] theorem State.evaluate_ports : (s.evaluate).ports = s.ports := by
  obtain ⟨_, _, h⟩ := s.evaluate_frame; rw [h]; rfl
@[simp] theorem State.evaluate_store : (s.evaluate).store = s.store := by
  obtain ⟨_, _, h⟩ := s.evaluate_frame; rw [h]; rfl
@[simp] theorem State.evaluate_ambient : (s.evaluate).ambient = s.ambient := by
  obtain ⟨_, _, h⟩ := s.evaluate_frame; rw [h]; rfl
@[simp] theorem State.evaluate_authority : (s.evaluate).authority = s.authority := by
  obtain ⟨_, _, h⟩ := s.evaluate_frame; rw [h]; rfl
@[simp] theorem State.evaluate_resolver : (s.evaluate).resolver = s.resolver := by
  obtain ⟨_, _, h⟩ := s.evaluate_frame; rw [h]; rfl
@[simp] theorem State.evaluate_drive : (s.evaluate).drive = s.drive := by
  obtain ⟨_, _, h⟩ := s.evaluate_frame; rw [h]; rfl
@[simp] theorem State.evaluate_monitor : (s.evaluate).monitor = s.monitor := by
  obtain ⟨_, _, h⟩ := s.evaluate_frame; rw [h]; rfl
@[simp] theorem State.evaluate_attention : (s.evaluate).attention = s.attention := by
  obtain ⟨_, _, h⟩ := s.evaluate_frame; rw [h]; rfl
@[simp] theorem State.evaluate_supply : (s.evaluate).supply = s.supply := by
  obtain ⟨_, _, h⟩ := s.evaluate_frame; rw [h]; rfl
@[simp] theorem State.evaluate_pending : (s.evaluate).pending = s.pending := by
  obtain ⟨_, _, h⟩ := s.evaluate_frame; rw [h]; rfl

theorem State.secondRollover_frame : ∃ x0 x1, s.secondRollover = (s.withClock x0).withRecorder x1 := by
  refine ⟨(s.secondRollover).clock, (s.secondRollover).recorder, ?_⟩
  simp only [State.secondRollover]
  split
  · obtain ⟨c, r, h⟩ := State.evaluate_frame (s.withClock { s.clock with prescaler := 0, time := s.clock.time.nextSecond })
    rw [h]; rfl
  · rfl

@[simp] theorem State.secondRollover_ports : (s.secondRollover).ports = s.ports := by
  obtain ⟨_, _, h⟩ := s.secondRollover_frame; rw [h]; rfl
@[simp] theorem State.secondRollover_store : (s.secondRollover).store = s.store := by
  obtain ⟨_, _, h⟩ := s.secondRollover_frame; rw [h]; rfl
@[simp] theorem State.secondRollover_ambient : (s.secondRollover).ambient = s.ambient := by
  obtain ⟨_, _, h⟩ := s.secondRollover_frame; rw [h]; rfl
@[simp] theorem State.secondRollover_authority : (s.secondRollover).authority = s.authority := by
  obtain ⟨_, _, h⟩ := s.secondRollover_frame; rw [h]; rfl
@[simp] theorem State.secondRollover_resolver : (s.secondRollover).resolver = s.resolver := by
  obtain ⟨_, _, h⟩ := s.secondRollover_frame; rw [h]; rfl
@[simp] theorem State.secondRollover_drive : (s.secondRollover).drive = s.drive := by
  obtain ⟨_, _, h⟩ := s.secondRollover_frame; rw [h]; rfl
@[simp] theorem State.secondRollover_monitor : (s.secondRollover).monitor = s.monitor := by
  obtain ⟨_, _, h⟩ := s.secondRollover_frame; rw [h]; rfl
@[simp] theorem State.secondRollover_attention : (s.secondRollover).attention = s.attention := by
  obtain ⟨_, _, h⟩ := s.secondRollover_frame; rw [h]; rfl
@[simp] theorem State.secondRollover_supply : (s.secondRollover).supply = s.supply := by
  obtain ⟨_, _, h⟩ := s.secondRollover_frame; rw [h]; rfl
@[simp] theorem State.secondRollover_pending : (s.secondRollover).pending = s.pending := by
  obtain ⟨_, _, h⟩ := s.secondRollover_frame; rw [h]; rfl

theorem State.setClock_frame (t : CivilTime) : ∃ x0 x1, s.setClock t = (s.withClock x0).withRecorder x1 := by
  refine ⟨(s.setClock t).clock, (s.setClock t).recorder, ?_⟩
  simp only [State.setClock]
  split <;> (obtain ⟨c, r, h⟩ := State.evaluate_frame _; rw [h]; rfl)

@[simp] theorem State.setClock_ports (t : CivilTime) : (s.setClock t).ports = s.ports := by
  obtain ⟨_, _, h⟩ := s.setClock_frame t; rw [h]; rfl
@[simp] theorem State.setClock_store (t : CivilTime) : (s.setClock t).store = s.store := by
  obtain ⟨_, _, h⟩ := s.setClock_frame t; rw [h]; rfl
@[simp] theorem State.setClock_ambient (t : CivilTime) : (s.setClock t).ambient = s.ambient := by
  obtain ⟨_, _, h⟩ := s.setClock_frame t; rw [h]; rfl
@[simp] theorem State.setClock_authority (t : CivilTime) : (s.setClock t).authority = s.authority := by
  obtain ⟨_, _, h⟩ := s.setClock_frame t; rw [h]; rfl
@[simp] theorem State.setClock_resolver (t : CivilTime) : (s.setClock t).resolver = s.resolver := by
  obtain ⟨_, _, h⟩ := s.setClock_frame t; rw [h]; rfl
@[simp] theorem State.setClock_drive (t : CivilTime) : (s.setClock t).drive = s.drive := by
  obtain ⟨_, _, h⟩ := s.setClock_frame t; rw [h]; rfl
@[simp] theorem State.setClock_monitor (t : CivilTime) : (s.setClock t).monitor = s.monitor := by
  obtain ⟨_, _, h⟩ := s.setClock_frame t; rw [h]; rfl
@[simp] theorem State.setClock_attention (t : CivilTime) : (s.setClock t).attention = s.attention := by
  obtain ⟨_, _, h⟩ := s.setClock_frame t; rw [h]; rfl
@[simp] theorem State.setClock_supply (t : CivilTime) : (s.setClock t).supply = s.supply := by
  obtain ⟨_, _, h⟩ := s.setClock_frame t; rw [h]; rfl
@[simp] theorem State.setClock_pending (t : CivilTime) : (s.setClock t).pending = s.pending := by
  obtain ⟨_, _, h⟩ := s.setClock_frame t; rw [h]; rfl

theorem State.storeEpoch_frame (i : Fin 24) (f : EpochFields) : ∃ x0 x1, s.storeEpoch i f = (s.withClock x0).withRecorder x1 := by
  refine ⟨(s.storeEpoch i f).clock, (s.storeEpoch i f).recorder, ?_⟩
  simp only [State.storeEpoch]
  obtain ⟨c, r, h⟩ := State.evaluate_frame (s.withClock { s.clock with epochs := s.clock.epochs.set i { fields := f, parity := f.parity, reported := false } })
  rw [h]; rfl

@[simp] theorem State.storeEpoch_ports (i : Fin 24) (f : EpochFields) : (s.storeEpoch i f).ports = s.ports := by
  obtain ⟨_, _, h⟩ := s.storeEpoch_frame i f; rw [h]; rfl
@[simp] theorem State.storeEpoch_store (i : Fin 24) (f : EpochFields) : (s.storeEpoch i f).store = s.store := by
  obtain ⟨_, _, h⟩ := s.storeEpoch_frame i f; rw [h]; rfl
@[simp] theorem State.storeEpoch_ambient (i : Fin 24) (f : EpochFields) : (s.storeEpoch i f).ambient = s.ambient := by
  obtain ⟨_, _, h⟩ := s.storeEpoch_frame i f; rw [h]; rfl
@[simp] theorem State.storeEpoch_authority (i : Fin 24) (f : EpochFields) : (s.storeEpoch i f).authority = s.authority := by
  obtain ⟨_, _, h⟩ := s.storeEpoch_frame i f; rw [h]; rfl
@[simp] theorem State.storeEpoch_resolver (i : Fin 24) (f : EpochFields) : (s.storeEpoch i f).resolver = s.resolver := by
  obtain ⟨_, _, h⟩ := s.storeEpoch_frame i f; rw [h]; rfl
@[simp] theorem State.storeEpoch_drive (i : Fin 24) (f : EpochFields) : (s.storeEpoch i f).drive = s.drive := by
  obtain ⟨_, _, h⟩ := s.storeEpoch_frame i f; rw [h]; rfl
@[simp] theorem State.storeEpoch_monitor (i : Fin 24) (f : EpochFields) : (s.storeEpoch i f).monitor = s.monitor := by
  obtain ⟨_, _, h⟩ := s.storeEpoch_frame i f; rw [h]; rfl
@[simp] theorem State.storeEpoch_attention (i : Fin 24) (f : EpochFields) : (s.storeEpoch i f).attention = s.attention := by
  obtain ⟨_, _, h⟩ := s.storeEpoch_frame i f; rw [h]; rfl
@[simp] theorem State.storeEpoch_supply (i : Fin 24) (f : EpochFields) : (s.storeEpoch i f).supply = s.supply := by
  obtain ⟨_, _, h⟩ := s.storeEpoch_frame i f; rw [h]; rfl
@[simp] theorem State.storeEpoch_pending (i : Fin 24) (f : EpochFields) : (s.storeEpoch i f).pending = s.pending := by
  obtain ⟨_, _, h⟩ := s.storeEpoch_frame i f; rw [h]; rfl

end

/-! ### Ambient Estimator -/

section

variable (s : State)

@[simp] theorem State.setSensorCondition_ports (i : Fin 3) (b : Bool) : (s.setSensorCondition i b).ports = s.ports := rfl
@[simp] theorem State.setSensorCondition_store (i : Fin 3) (b : Bool) : (s.setSensorCondition i b).store = s.store := rfl
@[simp] theorem State.setSensorCondition_clock (i : Fin 3) (b : Bool) : (s.setSensorCondition i b).clock = s.clock := rfl
@[simp] theorem State.setSensorCondition_ambient (i : Fin 3) (b : Bool) : (s.setSensorCondition i b).ambient = s.ambient := rfl
@[simp] theorem State.setSensorCondition_authority (i : Fin 3) (b : Bool) : (s.setSensorCondition i b).authority = s.authority := rfl
@[simp] theorem State.setSensorCondition_resolver (i : Fin 3) (b : Bool) : (s.setSensorCondition i b).resolver = s.resolver := rfl
@[simp] theorem State.setSensorCondition_drive (i : Fin 3) (b : Bool) : (s.setSensorCondition i b).drive = s.drive := rfl
@[simp] theorem State.setSensorCondition_monitor (i : Fin 3) (b : Bool) : (s.setSensorCondition i b).monitor = s.monitor := rfl
@[simp] theorem State.setSensorCondition_attention (i : Fin 3) (b : Bool) : (s.setSensorCondition i b).attention = s.attention := rfl
@[simp] theorem State.setSensorCondition_supply (i : Fin 3) (b : Bool) : (s.setSensorCondition i b).supply = s.supply := rfl
@[simp] theorem State.setSensorCondition_pending (i : Fin 3) (b : Bool) : (s.setSensorCondition i b).pending = s.pending := rfl

theorem State.reportSensor_frame (i : Fin 3) (a b : SensorReason) : ∃ x0, s.reportSensor i a b = s.withRecorder x0 := by
  refine ⟨(s.reportSensor i a b).recorder, ?_⟩
  simp only [State.reportSensor]
  repeat' split
  all_goals rfl

@[simp] theorem State.reportSensor_ports (i : Fin 3) (a b : SensorReason) : (s.reportSensor i a b).ports = s.ports := by
  obtain ⟨_, h⟩ := s.reportSensor_frame i a b; rw [h]; rfl
@[simp] theorem State.reportSensor_store (i : Fin 3) (a b : SensorReason) : (s.reportSensor i a b).store = s.store := by
  obtain ⟨_, h⟩ := s.reportSensor_frame i a b; rw [h]; rfl
@[simp] theorem State.reportSensor_clock (i : Fin 3) (a b : SensorReason) : (s.reportSensor i a b).clock = s.clock := by
  obtain ⟨_, h⟩ := s.reportSensor_frame i a b; rw [h]; rfl
@[simp] theorem State.reportSensor_ambient (i : Fin 3) (a b : SensorReason) : (s.reportSensor i a b).ambient = s.ambient := by
  obtain ⟨_, h⟩ := s.reportSensor_frame i a b; rw [h]; rfl
@[simp] theorem State.reportSensor_authority (i : Fin 3) (a b : SensorReason) : (s.reportSensor i a b).authority = s.authority := by
  obtain ⟨_, h⟩ := s.reportSensor_frame i a b; rw [h]; rfl
@[simp] theorem State.reportSensor_resolver (i : Fin 3) (a b : SensorReason) : (s.reportSensor i a b).resolver = s.resolver := by
  obtain ⟨_, h⟩ := s.reportSensor_frame i a b; rw [h]; rfl
@[simp] theorem State.reportSensor_drive (i : Fin 3) (a b : SensorReason) : (s.reportSensor i a b).drive = s.drive := by
  obtain ⟨_, h⟩ := s.reportSensor_frame i a b; rw [h]; rfl
@[simp] theorem State.reportSensor_monitor (i : Fin 3) (a b : SensorReason) : (s.reportSensor i a b).monitor = s.monitor := by
  obtain ⟨_, h⟩ := s.reportSensor_frame i a b; rw [h]; rfl
@[simp] theorem State.reportSensor_attention (i : Fin 3) (a b : SensorReason) : (s.reportSensor i a b).attention = s.attention := by
  obtain ⟨_, h⟩ := s.reportSensor_frame i a b; rw [h]; rfl
@[simp] theorem State.reportSensor_supply (i : Fin 3) (a b : SensorReason) : (s.reportSensor i a b).supply = s.supply := by
  obtain ⟨_, h⟩ := s.reportSensor_frame i a b; rw [h]; rfl
@[simp] theorem State.reportSensor_pending (i : Fin 3) (a b : SensorReason) : (s.reportSensor i a b).pending = s.pending := by
  obtain ⟨_, h⟩ := s.reportSensor_frame i a b; rw [h]; rfl

@[simp] theorem State.latchGrade_ports : (s.latchGrade).ports = s.ports := rfl
@[simp] theorem State.latchGrade_store : (s.latchGrade).store = s.store := rfl
@[simp] theorem State.latchGrade_clock : (s.latchGrade).clock = s.clock := rfl
@[simp] theorem State.latchGrade_ambient : (s.latchGrade).ambient = s.ambient := rfl
@[simp] theorem State.latchGrade_authority : (s.latchGrade).authority = s.authority := rfl
@[simp] theorem State.latchGrade_resolver : (s.latchGrade).resolver = s.resolver := rfl
@[simp] theorem State.latchGrade_drive : (s.latchGrade).drive = s.drive := rfl
@[simp] theorem State.latchGrade_monitor : (s.latchGrade).monitor = s.monitor := rfl
@[simp] theorem State.latchGrade_recorder : (s.latchGrade).recorder = s.recorder := rfl
@[simp] theorem State.latchGrade_supply : (s.latchGrade).supply = s.supply := rfl
@[simp] theorem State.latchGrade_pending : (s.latchGrade).pending = s.pending := rfl

end

/-! ### Authority Control and the uptime second -/

section

variable (s : State)

theorem State.measureBattery_frame (mv : Nat) : ∃ x0 x1, s.measureBattery mv = (s.withSupply x0).withRecorder x1 := by
  refine ⟨(s.measureBattery mv).supply, (s.measureBattery mv).recorder, ?_⟩
  simp only [State.measureBattery]
  split <;> rfl

@[simp] theorem State.measureBattery_ports (mv : Nat) : (s.measureBattery mv).ports = s.ports := by
  obtain ⟨_, _, h⟩ := s.measureBattery_frame mv; rw [h]; rfl
@[simp] theorem State.measureBattery_store (mv : Nat) : (s.measureBattery mv).store = s.store := by
  obtain ⟨_, _, h⟩ := s.measureBattery_frame mv; rw [h]; rfl
@[simp] theorem State.measureBattery_clock (mv : Nat) : (s.measureBattery mv).clock = s.clock := by
  obtain ⟨_, _, h⟩ := s.measureBattery_frame mv; rw [h]; rfl
@[simp] theorem State.measureBattery_ambient (mv : Nat) : (s.measureBattery mv).ambient = s.ambient := by
  obtain ⟨_, _, h⟩ := s.measureBattery_frame mv; rw [h]; rfl
@[simp] theorem State.measureBattery_authority (mv : Nat) : (s.measureBattery mv).authority = s.authority := by
  obtain ⟨_, _, h⟩ := s.measureBattery_frame mv; rw [h]; rfl
@[simp] theorem State.measureBattery_resolver (mv : Nat) : (s.measureBattery mv).resolver = s.resolver := by
  obtain ⟨_, _, h⟩ := s.measureBattery_frame mv; rw [h]; rfl
@[simp] theorem State.measureBattery_drive (mv : Nat) : (s.measureBattery mv).drive = s.drive := by
  obtain ⟨_, _, h⟩ := s.measureBattery_frame mv; rw [h]; rfl
@[simp] theorem State.measureBattery_monitor (mv : Nat) : (s.measureBattery mv).monitor = s.monitor := by
  obtain ⟨_, _, h⟩ := s.measureBattery_frame mv; rw [h]; rfl
@[simp] theorem State.measureBattery_attention (mv : Nat) : (s.measureBattery mv).attention = s.attention := by
  obtain ⟨_, _, h⟩ := s.measureBattery_frame mv; rw [h]; rfl
@[simp] theorem State.measureBattery_pending (mv : Nat) : (s.measureBattery mv).pending = s.pending := by
  obtain ⟨_, _, h⟩ := s.measureBattery_frame mv; rw [h]; rfl

theorem State.batteryAtSecond_frame (mv : Nat) : ∃ x0 x1, s.batteryAtSecond mv = (s.withSupply x0).withRecorder x1 := by
  refine ⟨(s.batteryAtSecond mv).supply, (s.batteryAtSecond mv).recorder, ?_⟩
  obtain ⟨x, r, h⟩ := s.measureBattery_frame mv
  simp only [State.batteryAtSecond, h]
  split <;> rfl

@[simp] theorem State.batteryAtSecond_ports (mv : Nat) : (s.batteryAtSecond mv).ports = s.ports := by
  obtain ⟨_, _, h⟩ := s.batteryAtSecond_frame mv; rw [h]; rfl
@[simp] theorem State.batteryAtSecond_store (mv : Nat) : (s.batteryAtSecond mv).store = s.store := by
  obtain ⟨_, _, h⟩ := s.batteryAtSecond_frame mv; rw [h]; rfl
@[simp] theorem State.batteryAtSecond_clock (mv : Nat) : (s.batteryAtSecond mv).clock = s.clock := by
  obtain ⟨_, _, h⟩ := s.batteryAtSecond_frame mv; rw [h]; rfl
@[simp] theorem State.batteryAtSecond_ambient (mv : Nat) : (s.batteryAtSecond mv).ambient = s.ambient := by
  obtain ⟨_, _, h⟩ := s.batteryAtSecond_frame mv; rw [h]; rfl
@[simp] theorem State.batteryAtSecond_authority (mv : Nat) : (s.batteryAtSecond mv).authority = s.authority := by
  obtain ⟨_, _, h⟩ := s.batteryAtSecond_frame mv; rw [h]; rfl
@[simp] theorem State.batteryAtSecond_resolver (mv : Nat) : (s.batteryAtSecond mv).resolver = s.resolver := by
  obtain ⟨_, _, h⟩ := s.batteryAtSecond_frame mv; rw [h]; rfl
@[simp] theorem State.batteryAtSecond_drive (mv : Nat) : (s.batteryAtSecond mv).drive = s.drive := by
  obtain ⟨_, _, h⟩ := s.batteryAtSecond_frame mv; rw [h]; rfl
@[simp] theorem State.batteryAtSecond_monitor (mv : Nat) : (s.batteryAtSecond mv).monitor = s.monitor := by
  obtain ⟨_, _, h⟩ := s.batteryAtSecond_frame mv; rw [h]; rfl
@[simp] theorem State.batteryAtSecond_attention (mv : Nat) : (s.batteryAtSecond mv).attention = s.attention := by
  obtain ⟨_, _, h⟩ := s.batteryAtSecond_frame mv; rw [h]; rfl
@[simp] theorem State.batteryAtSecond_pending (mv : Nat) : (s.batteryAtSecond mv).pending = s.pending := by
  obtain ⟨_, _, h⟩ := s.batteryAtSecond_frame mv; rw [h]; rfl

theorem State.authoritySecond_frame : ∃ x0 x1 x2, s.authoritySecond = ((s.withAuthority x0).withRecorder x1).withAttention x2 := by
  refine ⟨(s.authoritySecond).authority, (s.authoritySecond).recorder, (s.authoritySecond).attention, ?_⟩
  obtain ⟨a, b, h⟩ := State.expireOverrides_frame (s.withAuthority
    { s.authority with
      stack := s.authority.stack.map fun e => { e with remaining := e.remaining.countDown }
      presence := s.authority.presence.countDown })
  obtain ⟨c, d, h'⟩ := State.presenceRunOut_frame (((s.withAuthority
    { s.authority with
      stack := s.authority.stack.map fun e => { e with remaining := e.remaining.countDown }
      presence := s.authority.presence.countDown }).withAuthority a).withAttention b)
  simp only [State.authoritySecond, h, h']
  split <;> rfl

@[simp] theorem State.authoritySecond_ports : (s.authoritySecond).ports = s.ports := by
  obtain ⟨_, _, _, h⟩ := s.authoritySecond_frame; rw [h]; rfl
@[simp] theorem State.authoritySecond_store : (s.authoritySecond).store = s.store := by
  obtain ⟨_, _, _, h⟩ := s.authoritySecond_frame; rw [h]; rfl
@[simp] theorem State.authoritySecond_clock : (s.authoritySecond).clock = s.clock := by
  obtain ⟨_, _, _, h⟩ := s.authoritySecond_frame; rw [h]; rfl
@[simp] theorem State.authoritySecond_ambient : (s.authoritySecond).ambient = s.ambient := by
  obtain ⟨_, _, _, h⟩ := s.authoritySecond_frame; rw [h]; rfl
@[simp] theorem State.authoritySecond_resolver : (s.authoritySecond).resolver = s.resolver := by
  obtain ⟨_, _, _, h⟩ := s.authoritySecond_frame; rw [h]; rfl
@[simp] theorem State.authoritySecond_drive : (s.authoritySecond).drive = s.drive := by
  obtain ⟨_, _, _, h⟩ := s.authoritySecond_frame; rw [h]; rfl
@[simp] theorem State.authoritySecond_monitor : (s.authoritySecond).monitor = s.monitor := by
  obtain ⟨_, _, _, h⟩ := s.authoritySecond_frame; rw [h]; rfl
@[simp] theorem State.authoritySecond_supply : (s.authoritySecond).supply = s.supply := by
  obtain ⟨_, _, _, h⟩ := s.authoritySecond_frame; rw [h]; rfl
@[simp] theorem State.authoritySecond_pending : (s.authoritySecond).pending = s.pending := by
  obtain ⟨_, _, _, h⟩ := s.authoritySecond_frame; rw [h]; rfl

theorem State.takeEblank_frame (high : Bool) : ∃ x0 x1 x2, s.takeEblank high = ((s.withAuthority x0).withDrive x1).withRecorder x2 := by
  exact State.setAuthority_frame _ _

@[simp] theorem State.takeEblank_ports (high : Bool) : (s.takeEblank high).ports = s.ports := by
  obtain ⟨_, _, _, h⟩ := s.takeEblank_frame high; rw [h]; rfl
@[simp] theorem State.takeEblank_store (high : Bool) : (s.takeEblank high).store = s.store := by
  obtain ⟨_, _, _, h⟩ := s.takeEblank_frame high; rw [h]; rfl
@[simp] theorem State.takeEblank_clock (high : Bool) : (s.takeEblank high).clock = s.clock := by
  obtain ⟨_, _, _, h⟩ := s.takeEblank_frame high; rw [h]; rfl
@[simp] theorem State.takeEblank_ambient (high : Bool) : (s.takeEblank high).ambient = s.ambient := by
  obtain ⟨_, _, _, h⟩ := s.takeEblank_frame high; rw [h]; rfl
@[simp] theorem State.takeEblank_resolver (high : Bool) : (s.takeEblank high).resolver = s.resolver := by
  obtain ⟨_, _, _, h⟩ := s.takeEblank_frame high; rw [h]; rfl
@[simp] theorem State.takeEblank_monitor (high : Bool) : (s.takeEblank high).monitor = s.monitor := by
  obtain ⟨_, _, _, h⟩ := s.takeEblank_frame high; rw [h]; rfl
@[simp] theorem State.takeEblank_attention (high : Bool) : (s.takeEblank high).attention = s.attention := by
  obtain ⟨_, _, _, h⟩ := s.takeEblank_frame high; rw [h]; rfl
@[simp] theorem State.takeEblank_supply (high : Bool) : (s.takeEblank high).supply = s.supply := by
  obtain ⟨_, _, _, h⟩ := s.takeEblank_frame high; rw [h]; rfl
@[simp] theorem State.takeEblank_pending (high : Bool) : (s.takeEblank high).pending = s.pending := by
  obtain ⟨_, _, _, h⟩ := s.takeEblank_frame high; rw [h]; rfl

end

/-! ### Monitor -/

section

variable (s : State)

@[simp] theorem State.sampleOn_ports (z : Zone) (a : Nat) (off : Option Nat) (i : Nat) : (s.sampleOn z a off i).ports = s.ports := by
  simp only [State.sampleOn]; split <;> simp
@[simp] theorem State.sampleOn_store (z : Zone) (a : Nat) (off : Option Nat) (i : Nat) : (s.sampleOn z a off i).store = s.store := by
  simp only [State.sampleOn]; split <;> simp
@[simp] theorem State.sampleOn_clock (z : Zone) (a : Nat) (off : Option Nat) (i : Nat) : (s.sampleOn z a off i).clock = s.clock := by
  simp only [State.sampleOn]; split <;> simp
@[simp] theorem State.sampleOn_ambient (z : Zone) (a : Nat) (off : Option Nat) (i : Nat) : (s.sampleOn z a off i).ambient = s.ambient := by
  simp only [State.sampleOn]; split <;> simp
@[simp] theorem State.sampleOn_authority (z : Zone) (a : Nat) (off : Option Nat) (i : Nat) : (s.sampleOn z a off i).authority = s.authority := by
  simp only [State.sampleOn]; split <;> simp
@[simp] theorem State.sampleOn_resolver (z : Zone) (a : Nat) (off : Option Nat) (i : Nat) : (s.sampleOn z a off i).resolver = s.resolver := by
  simp only [State.sampleOn]; split <;> simp
@[simp] theorem State.sampleOn_attention (z : Zone) (a : Nat) (off : Option Nat) (i : Nat) : (s.sampleOn z a off i).attention = s.attention := by
  simp only [State.sampleOn]; split <;> simp
@[simp] theorem State.sampleOn_supply (z : Zone) (a : Nat) (off : Option Nat) (i : Nat) : (s.sampleOn z a off i).supply = s.supply := by
  simp only [State.sampleOn]; split <;> simp
@[simp] theorem State.sampleOn_pending (z : Zone) (a : Nat) (off : Option Nat) (i : Nat) : (s.sampleOn z a off i).pending = s.pending := by
  simp only [State.sampleOn]; split <;> simp

@[simp] theorem State.sampleOff_ports (z : Zone) (a : Nat) (i : Nat) : (s.sampleOff z a i).ports = s.ports := by
  simp [State.sampleOff]
@[simp] theorem State.sampleOff_store (z : Zone) (a : Nat) (i : Nat) : (s.sampleOff z a i).store = s.store := by
  simp [State.sampleOff]
@[simp] theorem State.sampleOff_clock (z : Zone) (a : Nat) (i : Nat) : (s.sampleOff z a i).clock = s.clock := by
  simp [State.sampleOff]
@[simp] theorem State.sampleOff_ambient (z : Zone) (a : Nat) (i : Nat) : (s.sampleOff z a i).ambient = s.ambient := by
  simp [State.sampleOff]
@[simp] theorem State.sampleOff_authority (z : Zone) (a : Nat) (i : Nat) : (s.sampleOff z a i).authority = s.authority := by
  simp [State.sampleOff]
@[simp] theorem State.sampleOff_resolver (z : Zone) (a : Nat) (i : Nat) : (s.sampleOff z a i).resolver = s.resolver := by
  simp [State.sampleOff]
@[simp] theorem State.sampleOff_attention (z : Zone) (a : Nat) (i : Nat) : (s.sampleOff z a i).attention = s.attention := by
  simp [State.sampleOff]
@[simp] theorem State.sampleOff_supply (z : Zone) (a : Nat) (i : Nat) : (s.sampleOff z a i).supply = s.supply := by
  simp [State.sampleOff]
@[simp] theorem State.sampleOff_pending (z : Zone) (a : Nat) (i : Nat) : (s.sampleOff z a i).pending = s.pending := by
  simp [State.sampleOff]

@[simp] theorem State.convert_ports (z : Zone) (c : Nat) : (s.convert z c).ports = s.ports := by
  simp only [State.convert]; split <;> simp
@[simp] theorem State.convert_store (z : Zone) (c : Nat) : (s.convert z c).store = s.store := by
  simp only [State.convert]; split <;> simp
@[simp] theorem State.convert_clock (z : Zone) (c : Nat) : (s.convert z c).clock = s.clock := by
  simp only [State.convert]; split <;> simp
@[simp] theorem State.convert_ambient (z : Zone) (c : Nat) : (s.convert z c).ambient = s.ambient := by
  simp only [State.convert]; split <;> simp
@[simp] theorem State.convert_authority (z : Zone) (c : Nat) : (s.convert z c).authority = s.authority := by
  simp only [State.convert]; split <;> simp
@[simp] theorem State.convert_resolver (z : Zone) (c : Nat) : (s.convert z c).resolver = s.resolver := by
  simp only [State.convert]; split <;> simp
@[simp] theorem State.convert_attention (z : Zone) (c : Nat) : (s.convert z c).attention = s.attention := by
  simp only [State.convert]; split <;> simp
@[simp] theorem State.convert_supply (z : Zone) (c : Nat) : (s.convert z c).supply = s.supply := by
  simp only [State.convert]; split <;> simp
@[simp] theorem State.convert_pending (z : Zone) (c : Nat) : (s.convert z c).pending = s.pending := by
  simp only [State.convert]; split <;> simp

end

/-! ### Zone Drive Engine -/

section

variable (s : State)

@[simp] theorem State.takeFsync_ports (high : Bool) : (s.takeFsync high).ports = s.ports := by
  simp only [State.takeFsync]; split <;> (try split) <;> simp
@[simp] theorem State.takeFsync_store (high : Bool) : (s.takeFsync high).store = s.store := by
  simp only [State.takeFsync]; split <;> (try split) <;> simp
@[simp] theorem State.takeFsync_clock (high : Bool) : (s.takeFsync high).clock = s.clock := by
  simp only [State.takeFsync]; split <;> (try split) <;> simp
@[simp] theorem State.takeFsync_ambient (high : Bool) : (s.takeFsync high).ambient = s.ambient := by
  simp only [State.takeFsync]; split <;> (try split) <;> simp
@[simp] theorem State.takeFsync_authority (high : Bool) : (s.takeFsync high).authority = s.authority := by
  simp only [State.takeFsync]; split <;> (try split) <;> simp
@[simp] theorem State.takeFsync_resolver (high : Bool) : (s.takeFsync high).resolver = s.resolver := by
  simp only [State.takeFsync]; split <;> (try split) <;> simp
@[simp] theorem State.takeFsync_monitor (high : Bool) : (s.takeFsync high).monitor = s.monitor := by
  simp only [State.takeFsync]; split <;> (try split) <;> simp
@[simp] theorem State.takeFsync_attention (high : Bool) : (s.takeFsync high).attention = s.attention := by
  simp only [State.takeFsync]; split <;> (try split) <;> simp
@[simp] theorem State.takeFsync_supply (high : Bool) : (s.takeFsync high).supply = s.supply := by
  simp only [State.takeFsync]; split <;> (try split) <;> simp
@[simp] theorem State.takeFsync_pending (high : Bool) : (s.takeFsync high).pending = s.pending := by
  simp only [State.takeFsync]; split <;> (try split) <;> simp

end

/-! ### Link ports and Table Store -/

section

variable (s : State)

@[simp] theorem State.modPort_store (p : Port) (f : LinkPort → LinkPort) : (s.modPort p f).store = s.store := rfl
@[simp] theorem State.modPort_clock (p : Port) (f : LinkPort → LinkPort) : (s.modPort p f).clock = s.clock := rfl
@[simp] theorem State.modPort_ambient (p : Port) (f : LinkPort → LinkPort) : (s.modPort p f).ambient = s.ambient := rfl
@[simp] theorem State.modPort_authority (p : Port) (f : LinkPort → LinkPort) : (s.modPort p f).authority = s.authority := rfl
@[simp] theorem State.modPort_resolver (p : Port) (f : LinkPort → LinkPort) : (s.modPort p f).resolver = s.resolver := rfl
@[simp] theorem State.modPort_drive (p : Port) (f : LinkPort → LinkPort) : (s.modPort p f).drive = s.drive := rfl
@[simp] theorem State.modPort_monitor (p : Port) (f : LinkPort → LinkPort) : (s.modPort p f).monitor = s.monitor := rfl
@[simp] theorem State.modPort_recorder (p : Port) (f : LinkPort → LinkPort) : (s.modPort p f).recorder = s.recorder := rfl
@[simp] theorem State.modPort_attention (p : Port) (f : LinkPort → LinkPort) : (s.modPort p f).attention = s.attention := rfl
@[simp] theorem State.modPort_supply (p : Port) (f : LinkPort → LinkPort) : (s.modPort p f).supply = s.supply := rfl
@[simp] theorem State.modPort_pending (p : Port) (f : LinkPort → LinkPort) : (s.modPort p f).pending = s.pending := rfl

@[simp] theorem State.complete_clock (p : Port) (r : Response) : (s.complete p r).clock = s.clock := rfl
@[simp] theorem State.complete_ambient (p : Port) (r : Response) : (s.complete p r).ambient = s.ambient := rfl
@[simp] theorem State.complete_authority (p : Port) (r : Response) : (s.complete p r).authority = s.authority := rfl
@[simp] theorem State.complete_resolver (p : Port) (r : Response) : (s.complete p r).resolver = s.resolver := rfl
@[simp] theorem State.complete_drive (p : Port) (r : Response) : (s.complete p r).drive = s.drive := rfl
@[simp] theorem State.complete_monitor (p : Port) (r : Response) : (s.complete p r).monitor = s.monitor := rfl
@[simp] theorem State.complete_recorder (p : Port) (r : Response) : (s.complete p r).recorder = s.recorder := rfl
@[simp] theorem State.complete_attention (p : Port) (r : Response) : (s.complete p r).attention = s.attention := rfl
@[simp] theorem State.complete_supply (p : Port) (r : Response) : (s.complete p r).supply = s.supply := rfl
@[simp] theorem State.complete_pending (p : Port) (r : Response) : (s.complete p r).pending = s.pending := rfl

theorem State.handOver_frame (p : Port) : ∃ x0, s.handOver p = s.withStore x0 := by
  refine ⟨(s.handOver p).store, ?_⟩
  simp only [State.handOver]
  split <;> rfl

@[simp] theorem State.handOver_ports (p : Port) : (s.handOver p).ports = s.ports := by
  obtain ⟨_, h⟩ := s.handOver_frame p; rw [h]; rfl
@[simp] theorem State.handOver_clock (p : Port) : (s.handOver p).clock = s.clock := by
  obtain ⟨_, h⟩ := s.handOver_frame p; rw [h]; rfl
@[simp] theorem State.handOver_ambient (p : Port) : (s.handOver p).ambient = s.ambient := by
  obtain ⟨_, h⟩ := s.handOver_frame p; rw [h]; rfl
@[simp] theorem State.handOver_authority (p : Port) : (s.handOver p).authority = s.authority := by
  obtain ⟨_, h⟩ := s.handOver_frame p; rw [h]; rfl
@[simp] theorem State.handOver_resolver (p : Port) : (s.handOver p).resolver = s.resolver := by
  obtain ⟨_, h⟩ := s.handOver_frame p; rw [h]; rfl
@[simp] theorem State.handOver_drive (p : Port) : (s.handOver p).drive = s.drive := by
  obtain ⟨_, h⟩ := s.handOver_frame p; rw [h]; rfl
@[simp] theorem State.handOver_monitor (p : Port) : (s.handOver p).monitor = s.monitor := by
  obtain ⟨_, h⟩ := s.handOver_frame p; rw [h]; rfl
@[simp] theorem State.handOver_recorder (p : Port) : (s.handOver p).recorder = s.recorder := by
  obtain ⟨_, h⟩ := s.handOver_frame p; rw [h]; rfl
@[simp] theorem State.handOver_attention (p : Port) : (s.handOver p).attention = s.attention := by
  obtain ⟨_, h⟩ := s.handOver_frame p; rw [h]; rfl
@[simp] theorem State.handOver_supply (p : Port) : (s.handOver p).supply = s.supply := by
  obtain ⟨_, h⟩ := s.handOver_frame p; rw [h]; rfl
@[simp] theorem State.handOver_pending (p : Port) : (s.handOver p).pending = s.pending := by
  obtain ⟨_, h⟩ := s.handOver_frame p; rw [h]; rfl

@[simp] theorem State.take_clock (p : Port) (r : Request) : (s.take p r).clock = s.clock := by
  cases p <;> simp [State.take]
@[simp] theorem State.take_ambient (p : Port) (r : Request) : (s.take p r).ambient = s.ambient := by
  cases p <;> simp [State.take]
@[simp] theorem State.take_resolver (p : Port) (r : Request) : (s.take p r).resolver = s.resolver := by
  cases p <;> simp [State.take]
@[simp] theorem State.take_drive (p : Port) (r : Request) : (s.take p r).drive = s.drive := by
  cases p <;> simp [State.take]
@[simp] theorem State.take_monitor (p : Port) (r : Request) : (s.take p r).monitor = s.monitor := by
  cases p <;> simp [State.take]
@[simp] theorem State.take_attention (p : Port) (r : Request) : (s.take p r).attention = s.attention := by
  cases p <;> simp [State.take]
@[simp] theorem State.take_supply (p : Port) (r : Request) : (s.take p r).supply = s.supply := by
  cases p <;> simp [State.take]
@[simp] theorem State.take_pending (p : Port) (r : Request) : (s.take p r).pending = s.pending := by
  cases p <;> simp [State.take]

@[simp] theorem State.endWrite_clock (p : Port) : (s.endWrite p).clock = s.clock := by
  simp only [State.endWrite]; split <;> simp
@[simp] theorem State.endWrite_ambient (p : Port) : (s.endWrite p).ambient = s.ambient := by
  simp only [State.endWrite]; split <;> simp
@[simp] theorem State.endWrite_resolver (p : Port) : (s.endWrite p).resolver = s.resolver := by
  simp only [State.endWrite]; split <;> simp
@[simp] theorem State.endWrite_drive (p : Port) : (s.endWrite p).drive = s.drive := by
  simp only [State.endWrite]; split <;> simp
@[simp] theorem State.endWrite_monitor (p : Port) : (s.endWrite p).monitor = s.monitor := by
  simp only [State.endWrite]; split <;> simp
@[simp] theorem State.endWrite_attention (p : Port) : (s.endWrite p).attention = s.attention := by
  simp only [State.endWrite]; split <;> simp
@[simp] theorem State.endWrite_supply (p : Port) : (s.endWrite p).supply = s.supply := by
  simp only [State.endWrite]; split <;> simp
@[simp] theorem State.endWrite_pending (p : Port) : (s.endWrite p).pending = s.pending := by
  simp only [State.endWrite]; split <;> simp

end

/-! ### Requests -/

section

variable (s : State)

@[simp] theorem State.clearZone_ports (z : Zone) : (s.clearZone z).ports = s.ports := rfl
@[simp] theorem State.clearZone_store (z : Zone) : (s.clearZone z).store = s.store := rfl
@[simp] theorem State.clearZone_clock (z : Zone) : (s.clearZone z).clock = s.clock := rfl
@[simp] theorem State.clearZone_ambient (z : Zone) : (s.clearZone z).ambient = s.ambient := rfl
@[simp] theorem State.clearZone_authority (z : Zone) : (s.clearZone z).authority = s.authority := rfl
@[simp] theorem State.clearZone_drive (z : Zone) : (s.clearZone z).drive = s.drive := rfl
@[simp] theorem State.clearZone_attention (z : Zone) : (s.clearZone z).attention = s.attention := rfl
@[simp] theorem State.clearZone_supply (z : Zone) : (s.clearZone z).supply = s.supply := rfl
@[simp] theorem State.clearZone_pending (z : Zone) : (s.clearZone z).pending = s.pending := rfl

@[simp] theorem State.setZoneRecord_ports (z : Zone) (r : ZoneRecord) : (s.setZoneRecord z r).ports = s.ports := by
  simp only [State.setZoneRecord]; split <;> simp
@[simp] theorem State.setZoneRecord_store (z : Zone) (r : ZoneRecord) : (s.setZoneRecord z r).store = s.store := by
  simp only [State.setZoneRecord]; split <;> simp
@[simp] theorem State.setZoneRecord_clock (z : Zone) (r : ZoneRecord) : (s.setZoneRecord z r).clock = s.clock := by
  simp only [State.setZoneRecord]; split <;> simp
@[simp] theorem State.setZoneRecord_ambient (z : Zone) (r : ZoneRecord) : (s.setZoneRecord z r).ambient = s.ambient := by
  simp only [State.setZoneRecord]; split <;> simp
@[simp] theorem State.setZoneRecord_authority (z : Zone) (r : ZoneRecord) : (s.setZoneRecord z r).authority = s.authority := by
  simp only [State.setZoneRecord]; split <;> simp
@[simp] theorem State.setZoneRecord_attention (z : Zone) (r : ZoneRecord) : (s.setZoneRecord z r).attention = s.attention := by
  simp only [State.setZoneRecord]; split <;> simp
@[simp] theorem State.setZoneRecord_supply (z : Zone) (r : ZoneRecord) : (s.setZoneRecord z r).supply = s.supply := by
  simp only [State.setZoneRecord]; split <;> simp
@[simp] theorem State.setZoneRecord_pending (z : Zone) (r : ZoneRecord) : (s.setZoneRecord z r).pending = s.pending := by
  simp only [State.setZoneRecord]; split <;> simp

@[simp] theorem State.setOperator_ports (m : ZoneMask) (o : OperatorMode) : (s.setOperator m o).ports = s.ports := rfl
@[simp] theorem State.setOperator_store (m : ZoneMask) (o : OperatorMode) : (s.setOperator m o).store = s.store := rfl
@[simp] theorem State.setOperator_clock (m : ZoneMask) (o : OperatorMode) : (s.setOperator m o).clock = s.clock := rfl
@[simp] theorem State.setOperator_ambient (m : ZoneMask) (o : OperatorMode) : (s.setOperator m o).ambient = s.ambient := rfl
@[simp] theorem State.setOperator_authority (m : ZoneMask) (o : OperatorMode) : (s.setOperator m o).authority = s.authority := rfl
@[simp] theorem State.setOperator_monitor (m : ZoneMask) (o : OperatorMode) : (s.setOperator m o).monitor = s.monitor := rfl
@[simp] theorem State.setOperator_recorder (m : ZoneMask) (o : OperatorMode) : (s.setOperator m o).recorder = s.recorder := rfl
@[simp] theorem State.setOperator_attention (m : ZoneMask) (o : OperatorMode) : (s.setOperator m o).attention = s.attention := rfl
@[simp] theorem State.setOperator_supply (m : ZoneMask) (o : OperatorMode) : (s.setOperator m o).supply = s.supply := rfl
@[simp] theorem State.setOperator_pending (m : ZoneMask) (o : OperatorMode) : (s.setOperator m o).pending = s.pending := rfl

@[simp] theorem State.setDriveTiming_ports (f : BaseFrequency) (e : EdgeMode) (m : SwapMode) : (s.setDriveTiming f e m).ports = s.ports := by
  simp only [State.setDriveTiming]; split <;> (try split) <;> simp
@[simp] theorem State.setDriveTiming_store (f : BaseFrequency) (e : EdgeMode) (m : SwapMode) : (s.setDriveTiming f e m).store = s.store := by
  simp only [State.setDriveTiming]; split <;> (try split) <;> simp
@[simp] theorem State.setDriveTiming_clock (f : BaseFrequency) (e : EdgeMode) (m : SwapMode) : (s.setDriveTiming f e m).clock = s.clock := by
  simp only [State.setDriveTiming]; split <;> (try split) <;> simp
@[simp] theorem State.setDriveTiming_ambient (f : BaseFrequency) (e : EdgeMode) (m : SwapMode) : (s.setDriveTiming f e m).ambient = s.ambient := by
  simp only [State.setDriveTiming]; split <;> (try split) <;> simp
@[simp] theorem State.setDriveTiming_authority (f : BaseFrequency) (e : EdgeMode) (m : SwapMode) : (s.setDriveTiming f e m).authority = s.authority := by
  simp only [State.setDriveTiming]; split <;> (try split) <;> simp
@[simp] theorem State.setDriveTiming_resolver (f : BaseFrequency) (e : EdgeMode) (m : SwapMode) : (s.setDriveTiming f e m).resolver = s.resolver := by
  simp only [State.setDriveTiming]; split <;> (try split) <;> simp
@[simp] theorem State.setDriveTiming_monitor (f : BaseFrequency) (e : EdgeMode) (m : SwapMode) : (s.setDriveTiming f e m).monitor = s.monitor := by
  simp only [State.setDriveTiming]; split <;> (try split) <;> simp
@[simp] theorem State.setDriveTiming_attention (f : BaseFrequency) (e : EdgeMode) (m : SwapMode) : (s.setDriveTiming f e m).attention = s.attention := by
  simp only [State.setDriveTiming]; split <;> (try split) <;> simp
@[simp] theorem State.setDriveTiming_supply (f : BaseFrequency) (e : EdgeMode) (m : SwapMode) : (s.setDriveTiming f e m).supply = s.supply := by
  simp only [State.setDriveTiming]; split <;> (try split) <;> simp
@[simp] theorem State.setDriveTiming_pending (f : BaseFrequency) (e : EdgeMode) (m : SwapMode) : (s.setDriveTiming f e m).pending = s.pending := by
  simp only [State.setDriveTiming]; split <;> (try split) <;> simp

@[simp] theorem State.setFaultSetup_ports (m : ZoneMask) (a : FaultSetupArgs) (q : Nat) : (s.setFaultSetup m a q).ports = s.ports := by
  simp only [State.setFaultSetup]; split <;> simp
@[simp] theorem State.setFaultSetup_store (m : ZoneMask) (a : FaultSetupArgs) (q : Nat) : (s.setFaultSetup m a q).store = s.store := by
  simp only [State.setFaultSetup]; split <;> simp
@[simp] theorem State.setFaultSetup_clock (m : ZoneMask) (a : FaultSetupArgs) (q : Nat) : (s.setFaultSetup m a q).clock = s.clock := by
  simp only [State.setFaultSetup]; split <;> simp
@[simp] theorem State.setFaultSetup_ambient (m : ZoneMask) (a : FaultSetupArgs) (q : Nat) : (s.setFaultSetup m a q).ambient = s.ambient := by
  simp only [State.setFaultSetup]; split <;> simp
@[simp] theorem State.setFaultSetup_authority (m : ZoneMask) (a : FaultSetupArgs) (q : Nat) : (s.setFaultSetup m a q).authority = s.authority := by
  simp only [State.setFaultSetup]; split <;> simp
@[simp] theorem State.setFaultSetup_resolver (m : ZoneMask) (a : FaultSetupArgs) (q : Nat) : (s.setFaultSetup m a q).resolver = s.resolver := by
  simp only [State.setFaultSetup]; split <;> simp
@[simp] theorem State.setFaultSetup_attention (m : ZoneMask) (a : FaultSetupArgs) (q : Nat) : (s.setFaultSetup m a q).attention = s.attention := by
  simp only [State.setFaultSetup]; split <;> simp
@[simp] theorem State.setFaultSetup_supply (m : ZoneMask) (a : FaultSetupArgs) (q : Nat) : (s.setFaultSetup m a q).supply = s.supply := by
  simp only [State.setFaultSetup]; split <;> simp
@[simp] theorem State.setFaultSetup_pending (m : ZoneMask) (a : FaultSetupArgs) (q : Nat) : (s.setFaultSetup m a q).pending = s.pending := by
  simp only [State.setFaultSetup]; split <;> simp

@[simp] theorem State.rearmKind_ports (z : Zone) (k : FaultKind) : (s.rearmKind z k).ports = s.ports := by
  simp only [State.rearmKind]; split <;> simp
@[simp] theorem State.rearmKind_store (z : Zone) (k : FaultKind) : (s.rearmKind z k).store = s.store := by
  simp only [State.rearmKind]; split <;> simp
@[simp] theorem State.rearmKind_clock (z : Zone) (k : FaultKind) : (s.rearmKind z k).clock = s.clock := by
  simp only [State.rearmKind]; split <;> simp
@[simp] theorem State.rearmKind_ambient (z : Zone) (k : FaultKind) : (s.rearmKind z k).ambient = s.ambient := by
  simp only [State.rearmKind]; split <;> simp
@[simp] theorem State.rearmKind_authority (z : Zone) (k : FaultKind) : (s.rearmKind z k).authority = s.authority := by
  simp only [State.rearmKind]; split <;> simp
@[simp] theorem State.rearmKind_resolver (z : Zone) (k : FaultKind) : (s.rearmKind z k).resolver = s.resolver := by
  simp only [State.rearmKind]; split <;> simp
@[simp] theorem State.rearmKind_drive (z : Zone) (k : FaultKind) : (s.rearmKind z k).drive = s.drive := by
  simp only [State.rearmKind]; split <;> simp
@[simp] theorem State.rearmKind_monitor (z : Zone) (k : FaultKind) : (s.rearmKind z k).monitor = s.monitor := by
  simp only [State.rearmKind]; split <;> simp
@[simp] theorem State.rearmKind_attention (z : Zone) (k : FaultKind) : (s.rearmKind z k).attention = s.attention := by
  simp only [State.rearmKind]; split <;> simp
@[simp] theorem State.rearmKind_supply (z : Zone) (k : FaultKind) : (s.rearmKind z k).supply = s.supply := by
  simp only [State.rearmKind]; split <;> simp
@[simp] theorem State.rearmKind_pending (z : Zone) (k : FaultKind) : (s.rearmKind z k).pending = s.pending := by
  simp only [State.rearmKind]; split <;> simp

@[simp] theorem State.endLockout_ports (z : Zone) : (s.endLockout z).ports = s.ports := rfl
@[simp] theorem State.endLockout_store (z : Zone) : (s.endLockout z).store = s.store := rfl
@[simp] theorem State.endLockout_clock (z : Zone) : (s.endLockout z).clock = s.clock := rfl
@[simp] theorem State.endLockout_ambient (z : Zone) : (s.endLockout z).ambient = s.ambient := rfl
@[simp] theorem State.endLockout_authority (z : Zone) : (s.endLockout z).authority = s.authority := rfl
@[simp] theorem State.endLockout_resolver (z : Zone) : (s.endLockout z).resolver =
    s.resolver.set z { s.resolver.get z with fromZero := true } := rfl
@[simp] theorem State.endLockout_recorder (z : Zone) : (s.endLockout z).recorder = s.recorder := rfl
@[simp] theorem State.endLockout_attention (z : Zone) : (s.endLockout z).attention = s.attention := rfl
@[simp] theorem State.endLockout_supply (z : Zone) : (s.endLockout z).supply = s.supply := rfl
@[simp] theorem State.endLockout_pending (z : Zone) : (s.endLockout z).pending = s.pending := rfl

@[simp] theorem State.rearm_ports (z : Zone) : (s.rearm z).ports = s.ports := by
  simp only [State.rearm, allKinds, List.foldl]; split <;> simp
@[simp] theorem State.rearm_store (z : Zone) : (s.rearm z).store = s.store := by
  simp only [State.rearm, allKinds, List.foldl]; split <;> simp
@[simp] theorem State.rearm_clock (z : Zone) : (s.rearm z).clock = s.clock := by
  simp only [State.rearm, allKinds, List.foldl]; split <;> simp
@[simp] theorem State.rearm_ambient (z : Zone) : (s.rearm z).ambient = s.ambient := by
  simp only [State.rearm, allKinds, List.foldl]; split <;> simp
@[simp] theorem State.rearm_authority (z : Zone) : (s.rearm z).authority = s.authority := by
  simp only [State.rearm, allKinds, List.foldl]; split <;> simp
@[simp] theorem State.rearm_resolver (z : Zone) : (s.rearm z).resolver =
    if s.lockedOut z then s.resolver.set z { s.resolver.get z with fromZero := true } else s.resolver := by
  simp only [State.rearm, allKinds, List.foldl]; split <;> simp
@[simp] theorem State.rearm_attention (z : Zone) : (s.rearm z).attention = s.attention := by
  simp only [State.rearm, allKinds, List.foldl]; split <;> simp
@[simp] theorem State.rearm_supply (z : Zone) : (s.rearm z).supply = s.supply := by
  simp only [State.rearm, allKinds, List.foldl]; split <;> simp
@[simp] theorem State.rearm_pending (z : Zone) : (s.rearm z).pending = s.pending := by
  simp only [State.rearm, allKinds, List.foldl]; split <;> simp

@[simp] theorem State.withStack_ports (l : List Override) : (s.withStack l).ports = s.ports := rfl
@[simp] theorem State.withStack_store (l : List Override) : (s.withStack l).store = s.store := rfl
@[simp] theorem State.withStack_clock (l : List Override) : (s.withStack l).clock = s.clock := rfl
@[simp] theorem State.withStack_ambient (l : List Override) : (s.withStack l).ambient = s.ambient := rfl
@[simp] theorem State.withStack_resolver (l : List Override) : (s.withStack l).resolver = s.resolver := rfl
@[simp] theorem State.withStack_drive (l : List Override) : (s.withStack l).drive = s.drive := rfl
@[simp] theorem State.withStack_monitor (l : List Override) : (s.withStack l).monitor = s.monitor := rfl
@[simp] theorem State.withStack_recorder (l : List Override) : (s.withStack l).recorder = s.recorder := rfl
@[simp] theorem State.withStack_attention (l : List Override) : (s.withStack l).attention = s.attention := rfl
@[simp] theorem State.withStack_supply (l : List Override) : (s.withStack l).supply = s.supply := rfl
@[simp] theorem State.withStack_pending (l : List Override) : (s.withStack l).pending = s.pending := rfl

end

end Sys2Proof.Machine
end

