-- ==== Sys2Proof/Laws/Recorder.lean ====
section
/-! SUPPORT. What the Fault Recorder's operations leave: appends, reports, Fault Table entries, one outcome of a sample. -/

namespace Sys2Proof.Machine

@[simp] theorem Recorder.append_table (r : Recorder) (x : JournalRecord) : (r.append x).table = r.table := by
  unfold Recorder.append; split <;> rfl

@[simp] theorem Recorder.append_conditions (r : Recorder) (x : JournalRecord) :
    (r.append x).conditions = r.conditions := by
  unfold Recorder.append; split <;> rfl

/-- The conditions may change before or after an append. -/
theorem Recorder.append_with_conditions (r : Recorder) (x : JournalRecord) (c : Conditions) :
    ({ r.append x with conditions := c } : Recorder) = ({ r with conditions := c } : Recorder).append x := by
  unfold Recorder.append; dsimp only; split <;> rfl

/-- An append with room left (R127). -/
theorem Recorder.append_room (r : Recorder) (x : JournalRecord) (h : r.journal.length < 48) :
    r.append x = { r with journal := r.journal ++ [x], unread := r.unread.map (· + 1) } := by
  unfold Recorder.append; rw [if_pos h]

/-- An append to a full journal drops the oldest record (R127). -/
theorem Recorder.append_full (r : Recorder) (x : JournalRecord) (h : 48 ≤ r.journal.length) :
    r.append x =
      { r with
        journal := r.journal.drop 1 ++ [x]
        unread := r.unread.map fun u => if u < 48 then u + 1 else u
        missed := ⟨if r.unread.a < 48 then r.missed.a else min 255 (r.missed.a + 1),
          if r.unread.o < 48 then r.missed.o else min 255 (r.missed.o + 1)⟩ } := by
  unfold Recorder.append; rw [if_neg (Nat.not_lt.mpr h)]

@[simp] theorem Recorder.appendAll_nil (r : Recorder) : r.appendAll [] = r := rfl

@[simp] theorem Recorder.appendAll_cons (r : Recorder) (x : JournalRecord) (xs : List JournalRecord) :
    r.appendAll (x :: xs) = (r.append x).appendAll xs := rfl

theorem Recorder.appendAll_append (r : Recorder) (xs ys : List JournalRecord) :
    r.appendAll (xs ++ ys) = (r.appendAll xs).appendAll ys := List.foldl_append

theorem State.report_eq (s : State) (r : Report) : s.report r = { s with recorder := s.recorder.append ⟨s.now, r⟩ } := rfl

/-- Reports one after another are appends one after another, under one timestamp. -/
theorem foldl_report_append {α : Type} (f : α → Report) (l : List α) (s : State) :
    l.foldl (fun u x => u.report (f x)) s =
      s.withRecorder (s.recorder.appendAll (l.map fun x => ⟨s.now, f x⟩)) := by
  induction l generalizing s with
  | nil => rfl
  | cons x l ih => rw [List.foldl_cons, ih]; rfl

@[simp] theorem State.entry_setEntry (s : State) (z y : Zone) (k j : FaultKind) (e : FaultEntry) :
    (s.setEntry z k e).entry y j = if y = z ∧ j = k then e else s.entry y j := by
  by_cases hz : y = z
  · subst hz; by_cases hk : j = k <;> simp [State.entry, State.setEntry, hk]
  · simp [State.entry, State.setEntry, hz]

@[simp] theorem State.entry_report (s : State) (r : Report) (z : Zone) (k : FaultKind) :
    (s.report r).entry z k = s.entry z k := by
  simp [State.entry, State.report]

/-- The state with an entry stored, as the record update the statements use. -/
theorem State.setEntry_eq (s : State) (z : Zone) (k : FaultKind) (e : FaultEntry) :
    s.setEntry z k e =
      { s with
        recorder := { s.recorder with table := s.recorder.table.set z ((s.recorder.table.get z).set k e) } } := rfl

/-- No outcome installs or uninstalls a zone. -/
theorem State.qualify_installed (s : State) (z : Zone) (k : FaultKind) (o : SampleOutcome) (d : Nat) (y : Zone) :
    (s.qualify z k o d).installed y = s.installed y := by
  have lock : ∀ (u : State), (u.lockOut z).installed y = u.installed y := by
    intro u; by_cases h : y = z <;> simp [State.installed, State.lockOut, State.modChannel, State.modMonitor, h]
  cases o with
  | none => rfl
  | bad =>
    simp only [State.qualify]
    repeat' split
    all_goals first | rfl | exact lock _
  | good =>
    simp only [State.qualify]
    repeat' split
    all_goals rfl

end Sys2Proof.Machine
end

