-- ==== Sys2Proof/Laws/Control.lean ====
section
/-! SUPPORT. What Authority Control's shared operations and the engine's sync operations leave, each in one equation. -/

namespace Sys2Proof.Machine

/-- When the kill is in force (R77, R78). -/
theorem Authority.killInForce_iff (a : Authority) : a.killInForce = true ↔ KillInForce a := by
  cases h1 : a.kill.mode <;> cases h2 : a.eblank <;> cases h3 : a.kill.polarity <;>
    simp [Authority.killInForce, Authority.eblankActive, activeUnder, KillInForce, EblankActive, h1, h2, h3]

/-- The kill formed afresh, in one formula: the records and the force holds from the kill before and after (R78, R99). -/
theorem State.setAuthority_eq (s : State) (a : Authority) :
    let before := s.authority.killInForce
    let after := a.killInForce
    let ends := before = true ∧ (after = false ∨ a.kill.mask ≠ s.authority.kill.mask)
    let begins := after = true ∧ (before = false ∨ a.kill.mask ≠ s.authority.kill.mask)
    s.setAuthority a =
      { s with
        authority := a
        drive :=
          { s.drive with
            zones := .ofFn fun z =>
              if begins ∧ s.installed z = true ∧ a.kill.mask.getLsbD z.val = true ∧
                  (before = false ∨ s.authority.kill.mask.getLsbD z.val = false) then
                { s.drive.zones.get z with hold := true }
              else s.drive.zones.get z }
        recorder :=
          ({ s.recorder with
            conditions :=
              { s.recorder.conditions with
                kill := if ends ∨ begins then after else s.recorder.conditions.kill } } : Recorder).appendAll
            ((if ends then [deviceRecord s.now .kill .cleared s.authority.kill.mask.toNat] else []) ++
              if begins then [deviceRecord s.now .kill .raised a.kill.mask.toNat] else []) } := by
  intro before after ends begins
  unfold State.setAuthority
  cases hb : s.authority.killInForce <;> cases ha : a.killInForce
  · simp [ends, begins, before, after, hb, ha, State.withAuthority]
  · simp [ends, begins, before, after, hb, ha, State.withAuthority, State.killBegins, State.report,
      State.modConditions, State.withRecorder, State.withDrive, Drive.holdZones, ZoneBank.mapIdx, deviceRecord,
      deviceReport, State.now, inMask, State.installed]
  · simp [ends, begins, before, after, hb, ha, State.withAuthority, State.killEnds, State.report,
      State.modConditions, State.withRecorder, deviceRecord, deviceReport, State.now]
    rfl
  · by_cases hm : a.kill.mask = s.authority.kill.mask
    · simp [ends, begins, before, after, hb, ha, hm, State.withAuthority]
    · simp [ends, begins, before, after, hb, ha, hm, State.withAuthority, State.killBegins, State.killEnds,
        State.report, State.modConditions, State.withRecorder, State.withDrive, Drive.holdZones, ZoneBank.mapIdx,
        deviceRecord, deviceReport, State.now, inMask, State.installed]
      refine congrArg (Recorder.append · _) ?_
      unfold Recorder.append
      dsimp only
      split <;> rfl

/-- What an A-port request taken leaves (R74, R75). -/
theorem State.authorityHeard_eq (s : State) :
    s.authorityHeard =
      { s with
        authority :=
          { s.authority with mode := .normal, origin := .reset, presence := presenceLoad s.authority.settings.window }
        recorder :=
          if s.authority.mode = .failsafe then
            (let cleared : Recorder :=
              { s.recorder with conditions := { s.recorder.conditions with failsafe := false } }
            if s.authority.origin = .presence then cleared.append (deviceRecord s.now .failsafe .cleared 0)
            else cleared)
          else s.recorder } := by
  unfold State.authorityHeard
  cases hm : s.authority.mode <;> cases ho : s.authority.origin <;> rfl

theorem Override.due_eq (e : Override) : e.due = decide (e.remaining = .seconds 0) := Bool.beq_eq_decide_eq _ _

/-- The expiry of overrides (R71). -/
theorem State.expireOverrides_eq (s : State) :
    s.expireOverrides =
      { s with
        authority := { s.authority with stack := s.authority.stack.filter fun x => decide (x.remaining ≠ .seconds 0) }
        attention :=
          match (s.authority.stack.filter fun x => decide (x.remaining = .seconds 0)).getLast? with
          | none => s.attention
          | some e => { s.attention with overrideExpired := true, lastExpired := e.id } } := by
  unfold State.expireOverrides
  rw [show Override.due = fun x => decide (x.remaining = .seconds 0) from funext Override.due_eq]
  cases h : (s.authority.stack.filter fun x => decide (x.remaining = .seconds 0)).getLast? with
  | some e => simp [State.withAuthority, State.withAttention]
  | none =>
    rw [List.getLast?_eq_none_iff] at h
    have : (s.authority.stack.filter fun x => decide (x.remaining ≠ .seconds 0)) = s.authority.stack := by
      rw [List.filter_eq_self]
      intro x hx
      have := List.filter_eq_nil_iff.1 h x hx
      simpa using this
    rw [this]

theorem Drive.watching_iff (d : Drive) : d.watching = true ↔ d.swapMode = .frame ∧ d.edgeMode ≠ .disabled := by
  simp [Drive.watching]

theorem State.endSyncLost_eq (s : State) :
    s.endSyncLost =
      { s with
        drive := { s.drive with syncLost := false }
        recorder :=
          if s.drive.syncLost then
            { s.recorder with conditions := { s.recorder.conditions with syncLost := false } }.append
              (deviceRecord s.now .syncLost .cleared 0)
          else s.recorder } := by
  unfold State.endSyncLost
  cases h : s.drive.syncLost
  · have : s.drive = { s.drive with syncLost := false } := by rw [← h]
    simp only [Bool.false_eq_true, if_false]; rw [← this]
  · rfl

/-- The effects of a sync event in FRAME with an enabled edge mode (R96, R97). -/
theorem State.syncEffects_eq (s : State) (h : s.drive.watching = true) :
    s.syncEffects =
      { s with
        drive :=
          { s.drive with
            syncLost := false, syncWatch := 0
            zones := .ofFn fun z =>
              if s.installed z = true ∧ (s.drive.zones.get z).swapPending = true then
                { s.drive.zones.get z with armed := true }
              else s.drive.zones.get z }
        recorder :=
          if s.drive.syncLost then
            { s.recorder with conditions := { s.recorder.conditions with syncLost := false } }.append
              (deviceRecord s.now .syncLost .cleared 0)
          else s.recorder } := by
  have zones : (s.drive.zones.mapIdx fun _ c => if c.record.installed && c.swapPending then { c with armed := true } else c) =
      .ofFn fun z => if s.installed z = true ∧ (s.drive.zones.get z).swapPending = true then
        { s.drive.zones.get z with armed := true } else s.drive.zones.get z := by
    refine ZoneBank.ext_get _ _ fun z => ?_
    simp only [ZoneBank.get_mapIdx, ZoneBank.get_ofFn, State.installed, Bool.and_eq_true]
    congr
  unfold State.syncEffects
  rw [if_pos h, State.endSyncLost_eq]
  simp only [State.withDrive, Drive.armPending, zones]

/-! ### The Override Stack (R67 to R69) -/

/-- With no two entries of one id, removing the id of an entry removes that entry alone. -/
theorem withoutId_append_cons {older newer : List Override} {x : Override}
    (h : ((older ++ x :: newer).map Override.id).Nodup) : withoutId (older ++ x :: newer) x.id = older ++ newer := by
  rw [List.map_append, List.map_cons, List.nodup_append] at h
  obtain ⟨-, h2, h3⟩ := h
  rw [List.nodup_cons] at h2
  unfold withoutId
  rw [List.filter_append, List.filter_cons]
  simp only [bne_self_eq_false, Bool.false_eq_true, if_false]
  congr 1
  · rw [List.filter_eq_self]; intro a ha
    simpa using h3 a.id (List.mem_map_of_mem ha) x.id (by simp)
  · rw [List.filter_eq_self]; intro a ha
    have : a.id ≠ x.id := fun hc => h2.1 (hc ▸ List.mem_map_of_mem ha)
    simpa using this

end Sys2Proof.Machine
end

