-- ==== Sys2Proof/Laws/Levels.lean ====
section
/-! SUPPORT. The Luminance Resolver's shared operations: covering entries, the least cap level, the least limit, the stages'
bounds. -/

namespace Sys2Proof.Machine

theorem Override.covers_iff (e : Override) (k : OverrideKind) (z : Zone) : e.covers k z = true ↔ Covers e k z := by
  simp [Override.covers, inMask, Covers]

theorem State.scheduleValid_iff (s : State) : s.scheduleValid = true ↔ ScheduleValid s := by
  simp [State.scheduleValid, ScheduleValid, Option.isSome_iff_ne_none]

/-- The least limit is one of the limits, at most each of them (R13, R14). -/
theorem leastLimit_spec (first : Limit) (rest : List Limit) :
    leastLimit first rest ∈ first :: rest ∧ ∀ l ∈ first :: rest, (leastLimit first rest).value ≤ l.value := by
  unfold leastLimit
  induction rest generalizing first with
  | nil => simp
  | cons x l ih =>
    rw [List.foldl_cons]
    split
    · rename_i hx
      obtain ⟨h1, h2⟩ := ih x
      refine ⟨List.mem_cons_of_mem _ h1, ?_⟩
      intro y hy
      rcases List.mem_cons.mp hy with rfl | hy
      · have := h2 x List.mem_cons_self; omega
      · exact h2 y hy
    · rename_i hx
      obtain ⟨h1, h2⟩ := ih first
      refine ⟨?_, ?_⟩
      · rcases List.mem_cons.mp h1 with h1 | h1
        · rw [h1]; exact List.mem_cons_self
        · exact List.mem_cons_of_mem _ (List.mem_cons_of_mem _ h1)
      · intro y hy
        rcases List.mem_cons.mp hy with rfl | hy
        · exact h2 y List.mem_cons_self
        · rcases List.mem_cons.mp hy with rfl | hy
          · have := h2 first List.mem_cons_self; omega
          · exact h2 y (List.mem_cons_of_mem _ hy)

/-- Of limits listed in the order of their reasons' codes, the least one has the lowest code of the equal ones (R15). -/
theorem leastLimit_first {first : Limit} {rest : List Limit}
    (sorted : (first :: rest).Pairwise fun a b => a.reason.code ≤ b.reason.code) :
    ∀ l ∈ first :: rest, l.value = (leastLimit first rest).value → (leastLimit first rest).reason.code ≤ l.reason.code := by
  induction rest generalizing first with
  | nil => simp [leastLimit]
  | cons x l ih =>
    have step : leastLimit first (x :: l) = leastLimit (if x.value < first.value then x else first) l := rfl
    rw [step]
    rw [List.pairwise_cons] at sorted
    obtain ⟨s1, s2⟩ := sorted
    by_cases hx : x.value < first.value
    · rw [if_pos hx]
      intro y hy hv
      rcases List.mem_cons.mp hy with rfl | hy
      · have := (leastLimit_spec x l).2 x List.mem_cons_self; omega
      · exact ih s2 y hy hv
    · rw [if_neg hx]
      have s3 : (first :: l).Pairwise fun a b => a.reason.code ≤ b.reason.code := by
        rw [List.pairwise_cons] at s2 ⊢
        exact ⟨fun y hy => s1 y (List.mem_cons_of_mem _ hy), s2.2⟩
      intro y hy hv
      rcases List.mem_cons.mp hy with rfl | hy
      · exact ih s3 y List.mem_cons_self hv
      · rcases List.mem_cons.mp hy with rfl | hy
        · have h1 := (leastLimit_spec first l).2 first List.mem_cons_self
          exact le_trans (ih s3 first List.mem_cons_self (by omega)) (s1 y List.mem_cons_self)
        · exact ih s3 y (List.mem_cons_of_mem _ hy) hv

/-- Every ceiling is at most the zone's Lmax (R13, R14). -/
theorem State.ceilingLimit_le_lmax (s : State) (z : Zone) : (s.ceilingLimit z).value ≤ (s.drive.zones.get z).record.lmax := by
  have hm : (⟨(s.drive.zones.get z).record.lmax, .physical⟩ : Limit) ∈ s.commonLimits z := by simp [State.commonLimits]
  unfold State.ceilingLimit
  split
  · exact (leastLimit_spec _ _).2 _ (List.mem_cons_of_mem _ hm)
  · exact (leastLimit_spec _ _).2 _ (List.mem_cons_of_mem _ (List.mem_append_right _ hm))

/-- A target at most the ceiling leaves a present level at most the ceiling (R16 to R20). -/
theorem newPresent_le {a : AuthSettings} {grade p t c : Nat} {blanked force : Bool} (h : t ≤ c) :
    newPresent a grade blanked force p t c ≤ c := by
  unfold newPresent; repeat' split
  all_goals omega

/-- From a present level of 0 a zone that is not blanked goes to its target with a FORCE, else rises by at most the up-step (R18,
R116). -/
theorem newPresent_zero (a : AuthSettings) (grade t c : Nat) (force : Bool) :
    newPresent a grade false force 0 t c = if force then t else min t (upStep a grade 0) := by
  cases force <;> simp [newPresent]; omega

@[simp] theorem ResolverZone.previous_fromZero {r : ResolverZone} (h : r.fromZero = true) : r.previous = 0 := by
  simp [ResolverZone.previous, h]

@[simp] theorem ResolverZone.previous_present {r : ResolverZone} (h : r.fromZero = false) : r.previous = r.present := by
  simp [ResolverZone.previous, h]

theorem State.resolveZone_present_le (s : State) (z : Zone) : (s.resolveZone z).present ≤ (s.resolveZone z).ceiling := by
  refine newPresent_le ?_
  split <;> omega

/-- The least level of the covering CAP entries (R10). -/
theorem capLevel_spec (stack : List Override) (z : Zone) :
    (capLevel stack z = none ↔ ∀ e ∈ stack, ¬Covers e .cap z) ∧
      ∀ v, capLevel stack z = some v →
        (∃ e ∈ stack, Covers e .cap z ∧ e.level = v) ∧ ∀ e ∈ stack, Covers e .cap z → v ≤ e.level := by
  have key : ∀ (l seen : List Override) (best : Option Nat),
      (best = none ↔ ∀ e ∈ seen, ¬Covers e .cap z) →
      (∀ v, best = some v → (∃ e ∈ seen, Covers e .cap z ∧ e.level = v) ∧ ∀ e ∈ seen, Covers e .cap z → v ≤ e.level) →
      let out := l.foldl
        (fun best e =>
          if e.covers .cap z then
            match best with
            | none => some e.level
            | some b => some (min b e.level)
          else best) best
      (out = none ↔ ∀ e ∈ seen ++ l, ¬Covers e .cap z) ∧
        ∀ v, out = some v →
          (∃ e ∈ seen ++ l, Covers e .cap z ∧ e.level = v) ∧ ∀ e ∈ seen ++ l, Covers e .cap z → v ≤ e.level := by
    intro l
    induction l with
    | nil => intro seen best h1 h2; simp only [List.append_nil, List.foldl_nil]; exact ⟨h1, h2⟩
    | cons x l ih =>
      intro seen best h1 h2
      have := ih (seen ++ [x])
      simp only [List.append_assoc, List.singleton_append] at this
      refine this _ ?_ ?_ <;> dsimp only
      · by_cases hx : Covers x .cap z
        · rw [if_pos ((Override.covers_iff _ _ _).2 hx)]
          constructor
          · intro h; cases best <;> simp at h
          · intro h; exact absurd hx (h x (by simp))
        · rw [if_neg fun hc => hx ((Override.covers_iff _ _ _).1 hc), h1]
          constructor
          · intro h e he
            rcases List.mem_append.mp he with he | he
            · exact h e he
            · simp only [List.mem_singleton] at he; exact he ▸ hx
          · intro h e he; exact h e (List.mem_append_left _ he)
      · intro v hv
        by_cases hx : Covers x .cap z
        · rw [if_pos ((Override.covers_iff _ _ _).2 hx)] at hv
          cases best with
          | none =>
            simp only [Option.some.injEq] at hv
            refine ⟨⟨x, by simp, hx, hv⟩, ?_⟩
            intro e he hc
            rcases List.mem_append.mp he with he | he
            · exact absurd hc (h1.1 rfl e he)
            · simp only [List.mem_singleton] at he; rw [he]; omega
          | some b =>
            simp only [Option.some.injEq] at hv
            obtain ⟨⟨e, he, hc, hl⟩, h4⟩ := h2 b rfl
            refine ⟨?_, ?_⟩
            · by_cases hm : b ≤ x.level
              · exact ⟨e, List.mem_append_left _ he, hc, by omega⟩
              · exact ⟨x, by simp, hx, by omega⟩
            · intro y hy hcy
              rcases List.mem_append.mp hy with hy | hy
              · have := h4 y hy hcy; omega
              · simp only [List.mem_singleton] at hy; rw [hy]; omega
        · rw [if_neg fun hc => hx ((Override.covers_iff _ _ _).1 hc)] at hv
          obtain ⟨⟨e, he, hc⟩, h4⟩ := h2 v hv
          refine ⟨⟨e, List.mem_append_left _ he, hc⟩, ?_⟩
          intro y hy hcy
          rcases List.mem_append.mp hy with hy | hy
          · exact h4 y hy hcy
          · simp only [List.mem_singleton] at hy; exact absurd (hy ▸ hcy) hx
  have := key stack [] none (by simp) (by simp)
  simp only [List.nil_append] at this
  exact this

end Sys2Proof.Machine
end

