-- ==== Sys2Proof/Laws/Operands.lean ====
section
/-! SUPPORT. Fields and codes: argument fields, codes read back, lengths of layouts, and the numbers that bytes carry. -/

namespace Sys2Proof.Machine

variable {r : Request}

/-! ### Argument fields -/

theorem Request.u1_lt (r : Request) (i : Nat) : r.u1 i < 256 := by unfold Request.u1; omega

theorem Request.zone_some {i : Nat} {z : Zone} (h : r.u1 i = z.val) : r.zone i = some z := by
  unfold Request.zone; rw [dif_pos (by rw [h]; exact z.isLt)]; simp [h]

theorem Request.zone_none {i : Nat} (h : 16 ≤ r.u1 i) : r.zone i = none := by
  unfold Request.zone; rw [dif_neg (by omega)]

theorem Request.entry_some {i : Nat} {j : Fin 24} (h : r.u1 i = j.val) : r.entry i = some j := by
  unfold Request.entry; rw [dif_pos (by rw [h]; exact j.isLt)]; simp [h]

theorem Request.entry_none {i : Nat} (h : 24 ≤ r.u1 i) : r.entry i = none := by
  unfold Request.entry; rw [dif_neg (by omega)]

theorem Request.flag_eq (r : Request) (i : Nat) : r.flag i = decide (r.u1 i ≠ 0) := by
  unfold Request.flag; cases h : (r.u1 i != 0) <;> simp_all

/-! ### Codes read back (R150) -/

@[simp] theorem OverrideKind.ofCode_code (k : OverrideKind) : ofCode k.code = some k := by cases k <;> rfl
@[simp] theorem ZoneClass.ofCode_code (k : ZoneClass) : ofCode k.code = some k := by cases k <;> rfl
@[simp] theorem Polarity.ofZoneCode_zoneCode (k : Polarity) : ofZoneCode k.zoneCode = some k := by cases k <;> rfl
@[simp] theorem Polarity.ofKillCode_killCode (k : Polarity) : ofKillCode k.killCode = some k := by cases k <;> rfl
@[simp] theorem KillMode.ofCode_code (k : KillMode) : ofCode k.code = some k := by cases k <;> rfl
@[simp] theorem holderOfCode_holderCode (k : Port) : holderOfCode (holderCode k) = some k := by cases k <;> rfl
@[simp] theorem BaseFrequency.ofCode_code (k : BaseFrequency) : ofCode k.code = some k := by cases k <;> rfl
@[simp] theorem EdgeMode.ofCode_code (k : EdgeMode) : ofCode k.code = some k := by cases k <;> rfl
@[simp] theorem SwapMode.ofCode_code (k : SwapMode) : ofCode k.code = some k := by cases k <;> rfl

theorem OverrideKind.ofCode_none {n : Nat} (h : n = 0 ∨ 4 ≤ n) : ofCode n = none := by
  unfold ofCode; split <;> first | rfl | omega
theorem ZoneClass.ofCode_none {n : Nat} (h : 2 ≤ n) : ofCode n = none := by unfold ofCode; split <;> first | rfl | omega
theorem Polarity.ofZoneCode_none {n : Nat} (h : 2 ≤ n) : ofZoneCode n = none := by
  unfold ofZoneCode; split <;> first | rfl | omega
theorem Polarity.ofKillCode_none {n : Nat} (h : 2 ≤ n) : ofKillCode n = none := by
  unfold ofKillCode; split <;> first | rfl | omega
theorem KillMode.ofCode_none {n : Nat} (h : 2 ≤ n) : ofCode n = none := by unfold ofCode; split <;> first | rfl | omega
theorem holderOfCode_none {n : Nat} (h : 2 ≤ n) : holderOfCode n = none := by
  unfold holderOfCode; split <;> first | rfl | omega
theorem BaseFrequency.ofCode_none {n : Nat} (h : 4 ≤ n) : ofCode n = none := by
  unfold ofCode; split <;> first | rfl | omega
theorem EdgeMode.ofCode_none {n : Nat} (h : 4 ≤ n) : ofCode n = none := by unfold ofCode; split <;> first | rfl | omega
theorem SwapMode.ofCode_none {n : Nat} (h : 2 ≤ n) : ofCode n = none := by unfold ofCode; split <;> first | rfl | omega

/-- A code in range that is a choice of its kind reads back as its reaction (R103). -/
theorem reactionOfCode_eq_some {k : FaultKind} {n : Nat} {a : Reaction} (h : reactionOfCode k n = some a) : n = a.code := by
  unfold reactionOfCode at h; split at h <;> simp_all [Reaction.code] <;> subst h <;> rfl

/-! ### Lengths of layouts (R152, R153) -/

@[simp] theorem be1_length (n : Nat) : (be1 n).length = 1 := rfl
@[simp] theorem be2_length (n : Nat) : (be2 n).length = 2 := rfl
@[simp] theorem be3_length (n : Nat) : (be3 n).length = 3 := rfl
@[simp] theorem be4_length (n : Nat) : (be4 n).length = 4 := rfl
@[simp] theorem flagByte_length (b : Bool) : (flagByte b).length = 1 := rfl
@[simp] theorem signed2_length (t : Int) : (signed2 t).length = 2 := rfl
@[simp] theorem CivilTime.bytes_length (t : CivilTime) : t.bytes.length = 6 := rfl
@[simp] theorem Timestamp.bytes_length (t : Timestamp) : t.bytes.length = 7 := by cases t <;> rfl
@[simp] theorem stampBytes_length (t : Option Timestamp) : (stampBytes t).length = 7 := by
  cases t; · rfl
  · exact Timestamp.bytes_length _
@[simp] theorem JournalRecord.bytes_length (x : JournalRecord) : x.bytes.length = 12 := by simp [JournalRecord.bytes]
@[simp] theorem FaultEntry.bytes_length (e : FaultEntry) : e.bytes.length = 10 := by simp [FaultEntry.bytes]
@[simp] theorem Override.bytes_length (e : Override) : e.bytes.length = 9 := by simp [Override.bytes]

/-- A timestamp stands where its bytes begin (R153). -/
theorem stampAt_bytes (pre post : List Byte) (o : Option Timestamp) :
    StampAt (pre ++ stampBytes o ++ post) pre.length o := by
  rcases o with _ | (t | n)
  · simp [StampAt, stampBytes, fieldAt, be1, byteOf, Nat.add_assoc]
  · simp [StampAt, stampBytes, fieldAt, be1, Timestamp.bytes, CivilTime.bytes, byteOf, Nat.add_assoc]
  · simp [StampAt, stampBytes, fieldAt, be1, be4, Timestamp.bytes, byteOf, Nat.add_assoc]
    omega

/-- A journal record stands where its bytes begin (R153). -/
theorem recordAt_bytes (pre post : List Byte) (x : JournalRecord) : RecordAt (pre ++ x.bytes ++ post) pre.length x := by
  refine ⟨?_, ?_⟩
  · simpa [JournalRecord.bytes, stampBytes] using
      stampAt_bytes pre
        (be1 x.report.source.code ++ be1 x.report.kind.code ++ be1 x.report.transition.code ++ be2 x.report.detail ++ post)
        (some x.stamp)
  · obtain ⟨stamp, source, kind, transition, detail⟩ := x
    have hs : source.code % 256 = (match source with
        | .zone z => z.val
        | .device => 0xFF) := by
      cases source with
      | zone z => simp only [Source.code]; omega
      | device => rfl
    have hk : (kind, kind.code % 256) ∈ journalKindCodes := by
      rcases kind with (_ | _ | _ | _ | _) | _ | _ | _ | _ | _ | _ | _ | _ <;> decide
    have ht : (transition, transition.code % 256) ∈ transitionCodes := by cases transition <;> decide
    cases stamp <;>
      simp [JournalRecord.bytes, Timestamp.bytes, CivilTime.bytes, fieldAt, be1, be2, be4, byteOf, Nat.add_assoc] <;>
      exact ⟨hs, hk, ht, by omega⟩

theorem flatMap_length {α β : Type} (l : List α) (f : α → List β) (n : Nat) (h : ∀ x, (f x).length = n) :
    (l.flatMap f).length = n * l.length := by
  induction l with
  | nil => simp
  | cons x l ih => simp only [List.flatMap_cons, List.length_append, List.length_cons, ih, h]; ring

end Sys2Proof.Machine
end

