-- ==== Sys2Proof/Laws/Schedule.lean ====
section
/-! SUPPORT. The calendar's next second stays in the calendar, and what one epoch evaluation leaves. -/

namespace Sys2Proof.Machine

theorem CivilTime.valid_iff (t : CivilTime) :
    t.valid = true ↔ 2000 ≤ t.year ∧ t.year ≤ 2099 ∧ 1 ≤ t.month ∧ t.month ≤ 12 ∧ 1 ≤ t.day ∧
      t.day ≤ monthLength t.year t.month ∧ t.hour ≤ 23 ∧ t.minute ≤ 59 ∧ t.second ≤ 59 := by
  simp [CivilTime.valid, and_assoc]

theorem monthLength_range (y m : Nat) : 28 ≤ monthLength y m ∧ monthLength y m ≤ 31 := by
  unfold monthLength; (repeat' split) <;> omega

theorem CivilTime.nextSecond_valid {t : CivilTime} (h : t.valid = true) : t.nextSecond.valid = true := by
  rw [CivilTime.valid_iff] at *
  have := monthLength_range t.year (t.month + 1)
  have := monthLength_range (t.year + 1) 1
  have := monthLength_range 2000 1
  unfold CivilTime.nextSecond CivilTime.nextDay
  (repeat' split) <;> dsimp only at * <;> refine ⟨?_, ?_, ?_, ?_, ?_, ?_, ?_, ?_, ?_⟩ <;> omega

/-- What the fold of `chooseEpoch` keeps: its best so far satisfies `p`, starts at or after every earlier one of `p`, and lies at
or before every earlier one of the same start. -/
theorem chooseEpoch_fold (t : EpochBank EpochEntry) (p : EpochEntry → Bool) (l : List (Fin 24)) (seen : Fin 24 → Prop)
    (best : Option (Fin 24)) (sorted : l.Pairwise (· < ·)) (later : ∀ j, seen j → ∀ i ∈ l, j < i)
    (none_ : best = none → ∀ j, seen j → p (t.get j) = false)
    (some_ : ∀ i, best = some i → seen i ∧ p (t.get i) = true ∧ ∀ j, seen j → p (t.get j) = true →
      (t.get j).fields.start < (t.get i).fields.start ∨ (t.get j).fields.start = (t.get i).fields.start ∧ i ≤ j) :
    let out := l.foldl
      (fun best i =>
        if p (t.get i) then
          match best with
          | none => some i
          | some j => if (t.get j).fields.start < (t.get i).fields.start then some i else best
        else best) best
    (out = none → ∀ j, seen j ∨ j ∈ l → p (t.get j) = false) ∧
      ∀ i, out = some i → p (t.get i) = true ∧ ∀ j, seen j ∨ j ∈ l → p (t.get j) = true →
        (t.get j).fields.start < (t.get i).fields.start ∨
          (t.get j).fields.start = (t.get i).fields.start ∧ i ≤ j := by
  induction l generalizing seen best with
  | nil =>
    simp only [List.foldl_nil, List.not_mem_nil, or_false]
    exact ⟨none_, fun i h => (some_ i h).2⟩
  | cons x l ih =>
    rw [List.pairwise_cons] at sorted
    have next := ih (fun j => seen j ∨ j = x)
    simp only [List.foldl_cons, List.mem_cons, ← or_assoc]
    apply next _ sorted.2
    · rintro j (h | rfl) i hi
      · exact later j h i (List.mem_cons_of_mem _ hi)
      · exact sorted.1 i hi
    · intro h j hj
      cases hp : p (t.get x)
      · rw [hp] at h
        rcases hj with hj | rfl
        · exact none_ h j hj
        · exact hp
      · simp only [hp, if_true] at h
        cases best with
        | none => simp at h
        | some b => dsimp only at h; split at h <;> simp at h
    · intro i h
      cases hp : p (t.get x)
      · rw [hp] at h
        obtain ⟨h1, h2, h3⟩ := some_ i h
        refine ⟨Or.inl h1, h2, ?_⟩
        rintro j (hj | rfl) hj2
        · exact h3 j hj hj2
        · rw [hp] at hj2; exact absurd hj2 (by decide)
      · simp only [hp, if_true] at h
        cases best with
        | none =>
          simp only [Option.some.injEq] at h; subst h
          refine ⟨Or.inr rfl, hp, ?_⟩
          rintro j (hj | rfl) hj2
          · rw [none_ rfl j hj] at hj2; exact absurd hj2 (by decide)
          · exact Or.inr ⟨rfl, le_refl _⟩
        | some b =>
          obtain ⟨h1, h2, h3⟩ := some_ b rfl
          dsimp only at h
          split at h <;> rename_i hlt <;> simp only [Option.some.injEq] at h <;> subst h
          · refine ⟨Or.inr rfl, hp, ?_⟩
            rintro j (hj | rfl) hj2
            · rcases h3 j hj hj2 with h4 | h4 <;> omega
            · exact Or.inr ⟨rfl, le_refl _⟩
          · refine ⟨Or.inl h1, h2, ?_⟩
            rintro j (hj | rfl) hj2
            · exact h3 j hj hj2
            · have := later b h1 j List.mem_cons_self
              rcases Nat.lt_or_eq_of_le (Nat.not_lt.mp hlt) with h4 | h4
              · exact Or.inl h4
              · exact Or.inr ⟨h4, Fin.le_of_lt this⟩

/-- The chosen entry satisfies `p`, with the greatest start, ties to the lowest index; none is chosen exactly when none does
(R61). -/
theorem chooseEpoch_spec (t : EpochBank EpochEntry) (p : EpochEntry → Bool) :
    (chooseEpoch t p = none → ∀ j, p (t.get j) = false) ∧
      ∀ i, chooseEpoch t p = some i → p (t.get i) = true ∧ ∀ j, p (t.get j) = true →
        (t.get j).fields.start < (t.get i).fields.start ∨
          (t.get j).fields.start = (t.get i).fields.start ∧ i ≤ j := by
  have h := chooseEpoch_fold t p allEntries (fun _ => False) none (by decide) (by simp) (by simp) (by simp)
  simp only [false_or, mem_allEntries, forall_const] at h
  exact h

/-- Contents that a disturbance leaves have every field in its range (R55). -/
theorem EpochContents.fields_inRange (c : EpochContents) : EpochInRange c.fields :=
  ⟨c.months.2, c.weekdays.2, c.start.2, Nat.le_of_lt_succ c.commercial.2, Nat.le_of_lt_succ c.authority.2,
    Nat.le_of_lt_succ c.fallback.2⟩

/-- When an entry passes parity (R56). -/
theorem EpochEntry.passes_iff (e : EpochEntry) : e.passes = true ↔ e.parity = e.fields.parity := by simp [EpochEntry.passes]

/-- An entry stored with fresh parity passes (R56). -/
@[simp] theorem EpochEntry.passes_fresh (f : EpochFields) (reported : Bool) :
    (EpochEntry.mk f f.parity reported).passes = true := by simp [EpochEntry.passes]

/-- The choice depends on `p` at the table's own entries alone. -/
theorem chooseEpoch_congr {t : EpochBank EpochEntry} {p q : EpochEntry → Bool} (h : ∀ i, p (t.get i) = q (t.get i)) :
    chooseEpoch t p = chooseEpoch t q := by
  unfold chooseEpoch
  simp only [h]

theorem State.reportParity_eq (s : State) :
    s.reportParity =
      (s.withClock
        { s.clock with
          epochs := s.clock.epochs.mapIdx fun _ e => if e.toReport then { e with reported := true } else e }).withRecorder
        (s.recorder.appendAll
          ((parityDue s).map fun i => ⟨s.now, deviceReport .tableParity .event i.val⟩)) := by
  simp only [State.reportParity, foldl_report_append]; rfl

theorem mem_parityDue (s : State) (i : Fin 24) : i ∈ parityDue s ↔ (s.clock.epochs.get i).toReport = true := by
  simp [parityDue, mem_allEntries, EpochEntry.toReport]

/-- What an evaluation leaves, in the words of the statements. -/
theorem State.evaluate_evaluated (s : State) : Evaluated s s.evaluate := by
  unfold State.evaluate
  cases hv : s.clock.valid
  · simp [Evaluated, hv, State.withClock]
  · simp only [if_true]
    cases hr : s.running
    · have hr' : s.supply.inReset = true := by simpa [State.running] using hr
      simp [Evaluated, hv, hr', State.withClock]
    · have hr' : s.supply.inReset = false := by simpa [State.running] using hr
      simp only [if_true, State.reportParity_eq]
      refine ⟨rfl, ?_, ?_, ?_, ?_⟩
      · simp [State.withClock, State.withRecorder]
      · simp [State.withClock, State.withRecorder, hv]
      · intro i
        simp only [State.withClock_clock, State.withRecorder_clock, EpochBank.get_mapIdx, mem_parityDue, hv, hr']
        cases h : (s.clock.epochs.get i).toReport <;> simp
      · simp [State.withClock, State.withRecorder, hv, hr', State.now, deviceRecord, deviceReport]

end Sys2Proof.Machine
end

