-- ==== Sys2Proof/Laws/Service.lean ====
section
/-! SUPPORT. What the serving of a request can do: nothing while the request is not in service, else a completion over what the
checks of R148 or the request's own rule give; and what a completion leaves. -/

namespace Sys2Proof.Machine

variable {s : State} {p : Port} {row : CatalogueRow} {r : Request}

theorem serviceOf_eq_some : s.serviceOf p row = some r ↔ InService s p row r := by
  simp only [State.serviceOf, State.inService]
  constructor
  · intro h
    by_cases hs : (s.running && s.store.serving == some p) = true
    · rw [if_pos hs] at h
      simp only [State.running, Bool.and_eq_true, Bool.not_eq_true', beq_iff_eq] at hs
      cases hx : (s.ports.get p).slot with
      | none => simp [hx] at h
      | some x =>
        simp only [hx, Option.ite_none_right_eq_some, Option.some.injEq] at h
        exact ⟨hs.1, hs.2, h.2 ▸ hx, h.2 ▸ h.1⟩
    · simp [hs] at h
  · rintro ⟨h1, h2, h3, h4⟩
    simp [State.running, h1, h2, h3, h4]

theorem permitted_iff : permitted s.store.grants p row.access = true ↔ MayMake s p row := by
  unfold permitted MayMake
  cases row.access <;> simp

/-- A service keeps whatever a completion and the request's own rule keep. -/
theorem serve_keeps {P : State → Prop} {body : Request → State → State × Response}
    (complete : ∀ s r, P s → P (s.complete p r)) (h : P s) (own : ∀ r, P (body r s).1) : P (s.serve p row body) := by
  simp only [State.serve]
  split
  · exact h
  · apply complete
    simp only [State.answer]
    split
    · exact h
    · split
      · exact h
      · exact own _

/-- A service without its request changes nothing. -/
theorem serve_none {body : Request → State → State × Response} (h : ∀ r, ¬InService s p row r) :
    s.serve p row body = s := by
  have : s.serviceOf p row = none := by
    cases hs : s.serviceOf p row with
    | none => rfl
    | some r => exact absurd (serviceOf_eq_some.1 hs) (h r)
  simp [State.serve, this]

/-- A wrong count of argument bytes answers LENGTH. -/
theorem serve_length {body : Request → State → State × Response} (h : InService s p row r) (n : r.count ≠ row.argBytes) :
    s.serve p row body = s.complete p (bare .length) := by
  simp [State.serve, serviceOf_eq_some.2 h, State.answer, n]

/-- A port without the right answers DENIED. -/
theorem serve_denied {body : Request → State → State × Response} (h : InService s p row r) (n : r.count = row.argBytes)
    (d : ¬MayMake s p row) : s.serve p row body = s.complete p (bare .denied) := by
  have hd : permitted s.store.grants p row.access = false := by
    rw [← Bool.not_eq_true]; exact fun hc => d (permitted_iff.1 hc)
  simp [State.serve, serviceOf_eq_some.2 h, State.answer, n, hd]

/-- An admitted request is served by its own rule. -/
theorem serve_admitted {body : Request → State → State × Response} (h : Admitted s p row r) :
    s.serve p row body = (body r s).1.complete p (body r s).2 := by
  have hd : permitted s.store.grants p row.access = true := permitted_iff.2 h.2.2
  simp [State.serve, serviceOf_eq_some.2 h.1, State.answer, h.2.1, hd]

theorem serveRead_admitted {resp : Request → State → Response} (h : Admitted s p row r) :
    s.serveRead p row resp = s.complete p (resp r s) := by
  rw [State.serveRead, serve_admitted h]

/-- What a completion leaves in the ports and the Table Store, over a rule that kept the ports. -/
theorem answered_complete {u : State} {resp : Response} (h : u.ports = s.ports) : Answered s (u.complete p resp) p resp := by
  refine ⟨by simp [State.complete, h], ?_⟩
  simp only [State.complete, State.withStore_store, selectNext, h]
  cases p <;> simp [PortPair.set, PortPair.get, otherPort] <;> rfl

/-- What a completion leaves of a rule that kept the ports and the selection: the rule's own effect. -/
theorem ownEffect_complete {u : State} {resp : Response} (h : u.ports = s.ports) (hs : u.store.serving = s.store.serving) :
    ownEffect s (u.complete p resp) = u := by
  cases u with
  | mk ports store => cases store; simp only at h hs; subst h hs; rfl

/-- A completion over the state itself changes nothing but the ports and the selection. -/
theorem refused_complete {st : Status} : Refused s (s.complete p (bare st)) p st :=
  ⟨answered_complete rfl, ownEffect_complete rfl rfl⟩

/-- The whole of an admitted request whose rule keeps the ports and the selection. -/
theorem serve_answers {body : Request → State → State × Response} {u : State} {resp : Response} (h : Admitted s p row r)
    (own : body r s = (u, resp)) (ports : u.ports = s.ports) (serving : u.store.serving = s.store.serving) :
    Answered s (s.serve p row body) p resp ∧ ownEffect s (s.serve p row body) = u := by
  rw [serve_admitted h, own]
  exact ⟨answered_complete ports, ownEffect_complete ports serving⟩

/-- The whole of an admitted request whose rule refuses it. -/
theorem serve_refuses {body : Request → State → State × Response} {st : Status} (h : Admitted s p row r)
    (own : body r s = (s, bare st)) : Refused s (s.serve p row body) p st := serve_answers h own rfl rfl

end Sys2Proof.Machine
end

