-- ==== Sys2Proof/Tests/Slice0.lean ====
section
/-! SUPPORT. Tests of one step each on small states, with expected values worked out by hand from the rules named, and for every
statement with hypotheses a state and operands that meet them. -/

namespace Sys2Proof.Tests

open Sys2Proof.Machine

/-! ### Helpers -/

/-- The state after one command. -/
def after (s : State) (c : Instr) : State :=
  match exec c s with
  | .next t => t
  | .fault _ => s
  | .refused _ => s

/-- The state with a request of a row in service on a port. -/
def serving (s : State) (p : Port) (row : CatalogueRow) (args : List Byte) : State :=
  { s with
    ports := s.ports.set p
      { s.ports.get p with receive := .idle, slot := some ⟨row.code, args, args.length⟩, response := ⟨.pending, []⟩ }
    store := { s.store with serving := some p } }

/-- The request that `serving` puts in the slot. -/
def requestFor (row : CatalogueRow) (args : List Byte) : Request := ⟨row.code, args, args.length⟩

theorem serving_in_service (s : State) (p : Port) (row : CatalogueRow) (args : List Byte) (h : s.supply.inReset = false) :
    InService (serving s p row args) p row (requestFor row args) :=
  ⟨h, rfl, by simp [serving, requestFor], rfl⟩

/-- A request of the right length from a port with the right is admitted. -/
theorem serving_admitted (s : State) (p : Port) (row : CatalogueRow) (args : List Byte) (h : s.supply.inReset = false)
    (n : args.length = row.argBytes) (may : permitted s.store.grants p row.access = true) :
    Admitted (serving s p row args) p row (requestFor row args) :=
  ⟨serving_in_service s p row args h, n, permitted_iff.1 may⟩

/-- A served request's response. -/
def served (s : State) (p : Port) (row : CatalogueRow) (args : List Byte) (c : Instr) : Response :=
  ((after (serving s p row args) c).ports.get p).response

/-- The state with a zone's channel changed. -/
def withChannel (s : State) (z : Zone) (f : Channel → Channel) : State := s.modChannel z f

/-- Reset, with zone 0 installed, under its default record and drawn by its first period end. -/
def installed : State :=
  withChannel .reset 0 fun c =>
    { c with
      record := { c.record with installed := true }, activeMode := .off, bufferedMode := .pwm, swapPending := true
      firstPeriod := true, supplyEnable := true }

/-- `installed` with the main reset of a brown-out under way. -/
def inReset : State := after installed .brownOut

/-- An epoch entry in use every day from a minute on. -/
def entryFrom (start : Nat) : EpochEntry :=
  let f : EpochFields := ⟨true, 0xFFF, 0x7F, start, 3000, 5000, 900, false⟩
  ⟨f, f.parity, false⟩

/-- Reset with the clock set and entry 2 in use from midnight, active. -/
def scheduled : State :=
  { State.reset with
    clock :=
      { State.reset.clock with
        valid := true, epochs := State.reset.clock.epochs.set 2 (entryFrom 0)
        active := some ⟨2, 3000, 5000, 900, false⟩ }
    recorder :=
      { State.reset.recorder with conditions := { State.reset.recorder.conditions with clockInvalid := false } } }

/-- An override entry for zone 0. -/
def override (id : Nat) (kind : OverrideKind) (level priority : Nat) : Override :=
  ⟨id, kind, 1, level, priority, .never⟩

/-- A state with a stack. -/
def withStack (s : State) (l : List Override) : State := { s with authority := { s.authority with stack := l } }

/-! ### Well-formedness: an ill-formed command for each check -/

theorem test_wf_gate_edges_0 : (Instr.gateCompletion 300001 0 0).wellFormed = false := by decide
theorem test_wf_gate_edges_1 : (Instr.gateCompletion 0 300001 0).wellFormed = false := by decide
theorem test_wf_gate_edges_2 : (Instr.gateCompletion 0 0 300001).wellFormed = false := by decide
theorem test_wf_gate_at_bound : (Instr.gateCompletion 300000 300000 300000).wellFormed = true := by decide
theorem test_wf_battery : (Instr.uptimeSecond 3601 true).wellFormed = false := by decide
theorem test_wf_current : (Instr.samplePoint 0 .on 65537).wellFormed = false := by decide

/-! ### The table gives no bits: no word spells a command (log 25) -/

theorem test_no_word_decodes : Sys2Proof.decodeTableWord 8 1 = none := by decide

/-! ### Figures of the manual -/

/-- 01 "1.9": Lc at 60000 lux on the default curve. -/
theorem test_curve_daylight : curveAt defaultCurve.toList 60000 = 5750 := by decide
/-- 12.1: Lc at 539 lux on the default curve. -/
theorem test_curve_shadow : curveAt defaultCurve.toList 539 = 395 := by decide
/-- 01 "1.9": the requested level. -/
theorem test_requested : requestedLevel 5750 { resolverZoneAfterReset with gain := 200 } = 4492 := by decide
/-- 01 "1.9": the thermal limit at 75 degrees. -/
theorem test_thermal : thermalLimit defaultSettings 8000 false (some ⟨0, 75⟩) = some 6400 := by decide
/-- R11: no thermal limit at the knee itself. -/
theorem test_thermal_knee : thermalLimit defaultSettings 8000 false (some ⟨0, 70⟩) = none := by decide
/-- 01 "1.9": the rise by the up-step. -/
theorem test_rise : newPresent defaultSettings 2 false false 4400 4492 5000 = 4451 := by decide
/-- 01 "Slew figures": the halved up-step at grade 0. -/
theorem test_up_step_grade_zero : upStep defaultSettings 0 4400 = 25 := by decide
/-- 12.2: the down-step from 6000. -/
theorem test_fall : newPresent defaultSettings 2 false false 6000 3000 6000 = 5813 := by decide
/-- 01 "1.9": the duty. -/
theorem test_duty : dutyOf 4451 8000 = 36462 := by decide
/-- R21: full level. -/
theorem test_duty_full : dutyOf 8000 8000 = 65535 := by decide
/-- 01 "1.9", period 2: a carry. -/
theorem test_compare_carry : formCompare 36462 14 0 = (2279, 12) := by decide
/-- R93: a compare below M is suppressed. -/
theorem test_compare_suppressed : formCompare 996 0 63 = (0, 4) := by decide
/-- 02 "2.8", gate 2: the median and its grade. -/
theorem test_glare_gate : (fuse 400 [30000, 28000, 2005], gradeOf 28000 [30000, 28000, 2005]) = (28000, 1) := by decide
/-- 02 "2.8", gate 3: a fall of 2 moves the estimate by 1. -/
theorem test_filter_floor : filterStep 4 2002 2000 = 2001 := by decide
/-- 02 "2.8", gate C: the third spike is fed. -/
theorem test_third_spike : screenAndFilter 4 2 5040 (some 200) 2 = (1410, 0) := by decide
/-- R48: 2000-01-01 is a Saturday. -/
theorem test_weekday_epoch : (CivilTime.mk 2000 1 1 0 0 0).weekday = 6 := by decide
/-- 03 "3.6": 2031-12-31 is a Wednesday. -/
theorem test_weekday_2031 : (CivilTime.mk 2031 12 31 23 59 0).weekday = 3 := by decide
/-- R46: the end of a leap February. -/
theorem test_leap_day : (CivilTime.mk 2024 2 28 23 59 59).nextSecond = ⟨2024, 2, 29, 0, 0, 0⟩ := by decide
/-- R47: the end of 2099. -/
theorem test_century_wrap : (CivilTime.mk 2099 12 31 23 59 59).nextSecond = ⟨2000, 1, 1, 0, 0, 0⟩ := by decide
/-- R108: 06 "6.7" gives code 727 as 95 degrees. -/
theorem test_celsius : celsiusOf 727 = 95 := by decide
/-- R105: the points of a window that opens with compare 4095. -/
theorem test_window_narrow : openWindow .pwm 4095 = .opened (some 2047) none := by decide
/-- R162: a battery class. -/
theorem test_battery_class : batteryClass 3200 = 6 := by decide
/-- R153: an uptime timestamp. -/
theorem test_timestamp : (Timestamp.uptime 258).bytes = [1, 0, 0, 0, 0, 1, 2] := by decide

/-- R153: a record of zone 3 under a civil timestamp. -/
theorem test_record : (zoneRecord (.civil ⟨2031, 6, 11, 5, 59, 7⟩) 3 .stuckOn .cleared 0x1000).bytes =
    [0, 31, 6, 11, 5, 59, 7, 3, 3, 2, 0x10, 0] := by decide
/-- R94: an ACTIVE_LOW output in PWM before and at its compare. -/
theorem test_output_low :
    let c : Channel := { State.reset.drive.zones.get 0 with polarity := .activeLow, activeMode := .pwm, compare := 7 }
    (c.output 6, c.output 7) = (some false, some true) := by decide

/-! ### The worked epochs of 03 "3.6" -/

/-- The fields of the four entries of "A week with a night epoch". -/
def weekFields (i : Fin 24) : EpochFields :=
  match i.val with
  | 0 => ⟨true, 0xFFF, 0x3E, 360, 5000, 6000, 2000, false⟩
  | 1 => ⟨true, 0xFFF, 0x7F, 1320, 400, 1500, 0, false⟩
  | 2 => ⟨true, 0xFFF, 0x41, 480, 4000, 6000, 2000, false⟩
  | 3 => ⟨true, 0xFFF, 0x41, 1320, 400, 1500, 0, true⟩
  | _ => defaultEpochFields

/-- Those entries, each stored with fresh parity. -/
def weekTable : EpochBank EpochEntry := .ofFn fun i => ⟨weekFields i, (weekFields i).parity, false⟩

theorem week_passes (i : Fin 24) : (weekTable.get i).passes = true := by simp [weekTable]

/-- A step 1 candidate by its fields alone. -/
def todayByFields (t : CivilTime) (e : EpochEntry) : Bool :=
  e.fields.inUse && onDay e.fields t.month t.weekday && decide (e.fields.start ≤ t.minuteOfDay)

/-- A step 2 candidate by its fields alone. -/
def yesterdayByFields (t : CivilTime) (e : EpochEntry) : Bool :=
  e.fields.inUse && onDay e.fields t.yesterdayMonth t.yesterdayWeekday

theorem today_passing {e : EpochEntry} (h : e.passes = true) (t : CivilTime) : e.today t = todayByFields t e := by
  simp [EpochEntry.today, todayByFields, EpochEntry.takesPart, h]

theorem yesterday_passing {e : EpochEntry} (h : e.passes = true) (t : CivilTime) : e.yesterday t = yesterdayByFields t e := by
  simp [EpochEntry.yesterday, yesterdayByFields, EpochEntry.takesPart, h]

/-- The evaluation of a table whose entries all pass parity. -/
theorem evaluate_passing {table : EpochBank EpochEntry} (h : ∀ i, (table.get i).passes = true) (t : CivilTime) :
    evaluateTable t table =
      match chooseEpoch table (todayByFields t) with
      | some i => some (activeOf i (table.get i))
      | none => (chooseEpoch table (yesterdayByFields t)).map fun i => activeOf i (table.get i) := by
  unfold evaluateTable
  rw [chooseEpoch_congr fun i => today_passing (h i) t, chooseEpoch_congr fun i => yesterday_passing (h i) t]
  cases chooseEpoch table (todayByFields t)
  · cases chooseEpoch table (yesterdayByFields t) <;> rfl
  · rfl

/-- Saturday 22:00: the lowest index of the equal starts. -/
theorem test_epoch_tie : (evaluateTable ⟨2031, 6, 14, 22, 0, 0⟩ weekTable).map ActiveEpoch.index = some 1 := by
  rw [evaluate_passing week_passes]; decide
/-- Wednesday 05:59: an entry of the evening before. -/
theorem test_epoch_yesterday : (evaluateTable ⟨2031, 6, 11, 5, 59, 0⟩ weekTable).map ActiveEpoch.index = some 1 := by
  rw [evaluate_passing week_passes]; decide
/-- R56: an entry whose stored parity is not that of its fields takes no part. -/
theorem test_parity_fails (f : EpochFields) : (EpochEntry.mk f (f.parity + 1) false).takesPart = false := by
  simp [EpochEntry.takesPart, EpochEntry.passes]
/-- Contents of an entry with every field at its greatest value (R55). -/
def brightest : EpochContents :=
  ⟨true, ⟨0xFFF, by decide⟩, ⟨0x7F, by decide⟩, 1439, 12000, 12000, 120000, true, 0⟩
/-- R56: disturbed contents whose fresh parity is the stored value pass. -/
theorem test_disturbance_may_pass (c : EpochContents) (h : c.parity = c.fields.parity) :
    ((after .reset (.backupStorageDisturbance 5 c)).clock.epochs.get 5).passes = true := by
  simp [after, exec, execBackupStorageDisturbance, EpochEntry.passes, h]

/-! ### One command each -/

/-- 09 "9.7": right after reset a read gives NONE and no data. -/
theorem test_first_read : (after .reset (.responseRead .a 0x2C)).readByte .a 0 = 0x0B ∧
    (after .reset (.responseRead .a 0x2C)).readByte .a 2 = 0xFF := by decide
/-- 09 "9.7": the OVR_PUSH of the worked transactions. -/
theorem test_push : served .reset .a rowOvrPush [4, 3, 0x03, 0x00, 0x07, 0xD0, 1, 0x02, 0x58] (.ovrPush .a) =
    ⟨.ok, [0, 0, 1]⟩ := by decide
/-- 09 "9.7": GAIN_WRITE with 3 argument bytes. -/
theorem test_gain_length : served .reset .o rowGainWrite [0x03, 0x00, 0x00] (.gainWrite .o) = ⟨.length, []⟩ := by decide
/-- 09 "9.7": G_8 is set to 128. -/
theorem test_gain : ((after (serving .reset .o rowGainWrite [0x03, 0x00, 0x00, 0x80]) (.gainWrite .o)).resolver.get 8).gain =
    128 := by decide
/-- R134: an Operator-only request on the A-port. -/
theorem test_gain_denied : served .reset .a rowGainWrite [0x03, 0x00, 0x00, 0x80] (.gainWrite .a) = ⟨.denied, []⟩ := by
  decide
/-- R54, R154: 2000-01-01 00:00:00, a Saturday, minute 0, not valid, not failed. -/
theorem test_clock_read : served .reset .o rowClockRead [] (.clockRead .o) = ⟨.ok, [0, 1, 1, 0, 0, 0, 6, 0, 0, 0, 0]⟩ := by
  decide
/-- R52: 29 February 2001 is no date. -/
theorem test_clock_set_range : served .reset .a rowClockSet [1, 2, 29, 0, 0, 0] (.clockSet .a) = ⟨.range, []⟩ := by decide
/-- R139: the Grant Map after a total loss. -/
theorem test_grant_read : served .reset .a rowGrantRead [] (.grantRead .a) = ⟨.ok, [1, 0, 1, 0, 1]⟩ := by decide
/-- R69: an id that no entry has. -/
theorem test_remove_absent : served .reset .a rowOvrRemove [9] (.ovrRemove .a) = ⟨.notFound, [0]⟩ := by decide
/-- R116: a zone that is not installed. -/
theorem test_rearm_absent : served .reset .o rowZoneRearm [3] (.zoneRearm .o) = ⟨.notFound, []⟩ := by decide
/-- R148: an uncatalogued code. -/
theorem test_unknown : served .reset .a ⟨0x23, .either, 0⟩ [] (.unknownCode .a) = ⟨.unknown, []⟩ := by decide
/-- R163: a brown-out in the journal's absence leaves the outputs floating. -/
theorem test_brown_out_floats : (after installed .brownOut).zoneOutput 0 = none := by decide
/-- R78, R99: the active level of EBLANK puts the installed zone's hold on. -/
theorem test_kill_holds : ((after installed (.killStartUpTake false)).drive.zones.get 0).hold = true := by decide
/-- R80, 12.2: the detail of the kill's record is its mask. -/
theorem test_kill_record : ((after installed (.killStartUpTake false)).recorder.journal.map fun x => x.report.detail) =
    [0, 0xFFFF] := by decide
/-- R92: the first period takes the swap, in PWM. -/
theorem test_first_period : ((after installed (.periodEnd 0)).drive.zones.get 0).effective = .pwm := by decide

/-! ### Witnesses: states and operands that meet the statements' hypotheses, clause by clause -/

theorem witness_StepExecutesTheFrontCommand :
    (∃ (s : State) (c : Instr) (rest : List Instr), s.pending = c :: rest) ∧ ∃ s : State, s.pending = [] :=
  ⟨⟨State.reset.withPending [.resolveExpiry], _, _, rfl⟩, .reset, rfl⟩

theorem witness_JournalAndUnreadCountsStayBounded :
    (∃ s t, JournalLaw s ∧ step s = .next t) ∧
      (∃ r : Recorder, r.journal.length < 48) ∧ (∃ r : Recorder, r.journal.length = 47 ∧ r.journal.length < 48) ∧
      (∃ r : Recorder, r.journal.length = 48 ∧ r.unread.a = 47 ∧ r.unread.o = 48) ∧
      ∃ s t, exec (.journalRead .a) s = .next t :=
  ⟨⟨State.reset.withPending [.brownOut], _, by decide, rfl⟩, ⟨recorderAfterReset true true, by decide⟩,
    ⟨{ recorderAfterReset true true with journal := List.replicate 47 (deviceRecord (.uptime 0) .kill .raised 0) },
      by decide, by decide⟩,
    ⟨{ recorderAfterReset true true with
        journal := List.replicate 48 (deviceRecord (.uptime 0) .kill .raised 0), unread := ⟨47, 48⟩ },
      by decide, rfl, rfl⟩,
    ⟨serving .reset .a rowJournalRead [], _, rfl⟩⟩

/-- `installed` with zone 0 locked out by an asserted SHORT. -/
def lockedZero : State :=
  ((installed.setEntry 0 .shortString ⟨6, true, 1, some (.uptime 0)⟩).lockOut 0)

/-- A main reset whose sources have ended. -/
def resetOver : State := { inReset with supply := { inReset.supply with supplyLow := false } }

theorem witness_QualificationCountsAgreeWithAsserts :
    (∃ s t, QualificationLaw s ∧ step s = .next t) ∧
      (∃ s t, s.supply.inReset = true ∧ s.supply.supplyLow = false ∧ s.supply.pinLow = false ∧
        exec (.mainResetEnd 0 3) s = .next t) ∧
      (∃ s t, s.lockedOut 0 = true ∧ exec (.samplePoint 0 .on 65536) s = .next t) ∧
      (∃ s t, s.monitor.scan = some ⟨0, false⟩ ∧ s.lockedOut 0 = true ∧
        exec (.conversionCompletion 1023) s = .next t) ∧
      (∃ s : State, QualificationLaw s ∧ (s.entry 0 .shortString).asserted = true ∧
        (s.entry 0 .openString).asserted = false) ∧
      (∃ s t, exec (.faultSetup .o) s = .next t ∧ t.monitor.limit ≠ s.monitor.limit) ∧
      (∃ s t r, Admitted s .o rowZoneRearm r ∧ r.u1 0 = (0 : Zone).val ∧ s.installed 0 = true ∧
        exec (.zoneRearm .o) s = .next t) ∧
      ∃ c s t, exec c s = .next t ∧ s.installed 0 = true ∧ t.installed 0 = false :=
  ⟨⟨lockedZero.withPending [.samplePoint 0 .on 0], _, by decide, rfl⟩, ⟨resetOver, _, by decide, by decide, by decide, rfl⟩,
    ⟨lockedZero, _, by decide, rfl⟩,
    ⟨{ lockedZero with monitor := { lockedZero.monitor with scan := some ⟨0, false⟩ } }, _, rfl, by decide, rfl⟩,
    ⟨lockedZero, by decide, by decide, by decide⟩,
    ⟨serving lockedZero .o rowFaultSetup [0, 0, 20, 20, 0, 1, 2, 0, 15], _, rfl, by decide⟩,
    ⟨serving lockedZero .o rowZoneRearm [0], _, _, serving_admitted lockedZero .o rowZoneRearm [0] rfl rfl rfl, by decide,
      by decide, rfl⟩,
    ⟨.mainResetEnd 0 0, resetOver, _, rfl, by decide, by decide⟩⟩

/-- A stack of three entries. -/
def threeEntries : State := withStack installed [override 1 .cap 500 1, override 2 .blank 0 0, override 3 .force 7000 2]

theorem witness_OverrideStackStaysWellFormed :
    (∃ s t, StackLaw s ∧ step s = .next t) ∧
      (∃ s t, s.supply.inReset = true ∧ s.supply.supplyLow = false ∧ s.supply.pinLow = false ∧
        exec (.mainResetEnd 0 0) s = .next t) ∧
      ∃ c s t, StackLaw s ∧ exec c s = .next t :=
  ⟨⟨threeEntries.withPending [.overrideExpired], _, by decide, rfl⟩, ⟨resetOver, _, by decide, by decide, by decide, rfl⟩,
    ⟨.ovrPush .a, serving threeEntries .a rowOvrPush [4, 1, 0, 1, 0, 9, 3, 0, 0], _, by decide, rfl⟩⟩

/-- `installed` with zone 0 in PWM at duty 32768. -/
def lit : State :=
  withChannel installed 0 fun c =>
    { c with activeMode := .pwm, firstPeriod := false, swapPending := false, activeDuty := 32768, dutyBuffer := 32768 }

theorem witness_CompareStaysInRangeAndChangesAtPeriodEnds :
    (∃ s t, ZoneRangeLaw s ∧ CompareLaw s ∧ step s = .next t) ∧
      (∃ c s t, exec c s = .next t ∧ (t.drive.zones.get 0).compare ≠ (s.drive.zones.get 0).compare) ∧
      (∃ s t, s.supply.inReset = false ∧ exec (.periodEnd 1) s = .next t ∧ s.installed 1 = false) ∧
      (∃ s t, s.supply.inReset = false ∧ exec (.periodEnd 0) s = .next t ∧ s.installed 0 = true ∧
        (s.drive.zones.get 0).record.phase ≠ (s.drive.zones.get 0).phase) ∧
      (∃ c s t, exec c s = .next t ∧ s.installed 0 = true ∧ t.installed 0 = false) ∧
      ∃ s t, s.supply.inReset = true ∧ s.supply.supplyLow = false ∧ s.supply.pinLow = false ∧
        exec (.mainResetEnd 0 0) s = .next t :=
  ⟨⟨lit.withPending [.periodEnd 0], _, by decide, by decide, rfl⟩, ⟨.periodEnd 0, lit, _, rfl, by decide⟩,
    ⟨lit, _, rfl, rfl, by decide⟩,
    ⟨withChannel lit 0 fun c => { c with record := { c.record with phase := 1 } }, _, rfl, rfl, by decide, by decide⟩,
    ⟨.zoneSetup .a, serving lit .a rowZoneSetup [0, 0, 0, 0, 0, 100, 8, 0, 0], _, rfl, by decide, by decide⟩,
    ⟨resetOver, _, by decide, by decide, by decide, rfl⟩⟩

/-- The argument bytes of the default curve. -/
def curveArgs : List Byte := curveBytes defaultCurve

theorem witness_AmbientCurveStaysOrderedAndInRange :
    (∃ s t, CurveLaw s.ambient.curve ∧ step s = .next t) ∧ (∃ s t, exec (.curveWrite .o) s = .next t) ∧
      ∃ s t, s.supply.inReset = true ∧ s.supply.supplyLow = false ∧ s.supply.pinLow = false ∧
        exec (.mainResetEnd 3 3) s = .next t :=
  ⟨⟨(serving .reset .o rowCurveWrite curveArgs).withPending [.curveWrite .o], _, by decide, rfl⟩,
    ⟨serving .reset .o rowCurveWrite curveArgs, _, rfl⟩, ⟨resetOver, _, by decide, by decide, by decide, rfl⟩⟩

theorem witness_FilteredAmbientAndGradeKeepTheirLaw :
    (∃ s t, ScheduleLaw s ∧ AmbientLaw s ∧ step s = .next t) ∧
      (∃ c s t, exec c s = .next t ∧ t.ambient.filtered ≠ s.ambient.filtered) ∧
      (∃ s t, s.supply.inReset = true ∧ s.supply.supplyLow = false ∧ s.supply.pinLow = false ∧
        exec (.mainResetEnd 3 3) s = .next t) ∧
      ∃ s t, s.supply.inReset = false ∧ exec (.gateCompletion 0 0 0) s = .next t :=
  ⟨⟨scheduled.withPending [.gateCompletion 5 6 7], _, by decide, by decide, rfl⟩,
    ⟨.gateCompletion 5 6 7, .reset, _, rfl, by decide⟩, ⟨resetOver, _, by decide, by decide, by decide, rfl⟩,
    ⟨scheduled, _, rfl, rfl⟩⟩

theorem witness_ClockAndScheduleKeepTheirLaw :
    (∃ s t, ScheduleLaw s ∧ s.pending = [.secondRollover] ∧ step s = .next t) ∧
      ∃ s t, ScheduleLaw s ∧ s.pending = [.backupStorageDisturbance 2 brightest] ∧ step s = .next t :=
  ⟨⟨scheduled.withPending [.secondRollover], _, by decide, rfl, rfl⟩,
    ⟨scheduled.withPending [.backupStorageDisturbance 2 brightest], _, by decide, rfl, rfl⟩⟩

/-- Reset with NORMAL mode and one second left on the Presence Timer. -/
def lastSecond : State :=
  { State.reset with
    authority := { State.reset.authority with mode := .normal, presence := .seconds 1 }
    recorder :=
      { State.reset.recorder with conditions := { State.reset.recorder.conditions with failsafe := false } } }

theorem witness_AuthorityControlKeepsItsLaw : ∃ s t, AuthorityLaw s ∧ step s = .next t :=
  ⟨lastSecond.withPending [.uptimeSecond 3300 false], _, by decide, rfl⟩

theorem witness_ZoneRangesAreKept : ∃ s t, ZoneRangeLaw s ∧ step s = .next t :=
  ⟨lit.withPending [.resolveExpiry], _, by decide, rfl⟩

theorem witness_SupplyEnablesHoldsAndModesFollowTheZones : ∃ s t, OutputLaw s ∧ step s = .next t :=
  ⟨lockedZero.withPending [.periodEnd 0], _, by decide, rfl⟩

theorem witness_DeviceConditionsFollowTheirOwners : ∃ s t, ConditionsLaw s ∧ step s = .next t :=
  ⟨lastSecond.withPending [.uptimeSecond 1999 true], _, by decide, rfl⟩

theorem witness_PortsAndTableStoreKeepTheirLaw : ∃ s t, StackLaw s ∧ LinkLaw s ∧ step s = .next t :=
  ⟨(serving threeEntries .o rowOvrList []).withPending [.ovrList .o], _, by decide, by decide, rfl⟩

/-- Reset with a Grant Map. -/
def granted (g : GrantMap) : State := { State.reset with store := { State.reset.store with grants := g } }

theorem witness_OperatorPortChangesNoTableOfTheAuthority :
    (∃ c s t, actsOn c = some .o ∧ exec c s = .next t ∧ s.store.grants.clock = .a ∧ s.store.grants.zoneSetup = .a) ∧
      (∃ c s t, actsOn c = some .o ∧ exec c s = .next t ∧ s.store.grants.curve = .a ∧
        s.store.grants.faultSetup = .a ∧ s.store.grants.driveTiming = .a) ∧
      (∃ c s t, actsOn c = some .o ∧ exec c s = .next t ∧ ∀ g, s.store.grants.holder g = .a) ∧
      (∃ c s t, actsOn c = some .o ∧ exec c s = .next t ∧ s.store.grants.faultSetup = .a ∧ s.lockedOut 0 = true ∧
        t.installed 0 = true) ∧
      ∃ c s t, actsOn c = some .o ∧ exec c s = .next t ∧ s.store.grants.faultSetup = .a ∧ s.installed 15 = false :=
  ⟨⟨.curveWrite .o, serving .reset .o rowCurveWrite curveArgs, _, rfl, rfl, rfl, rfl⟩,
    ⟨.gainWrite .o, serving (granted ⟨.a, .o, .a, .o, .a⟩) .o rowGainWrite [0, 1, 0, 5], _, rfl, rfl, rfl, rfl, rfl⟩,
    ⟨.zoneMode .o, serving (granted ⟨.a, .a, .a, .a, .a⟩) .o rowZoneMode [0, 1, 0], _, rfl, rfl,
      fun g => by cases g <;> rfl⟩,
    ⟨.zoneRearm .o,
      serving { lockedZero with store := { lockedZero.store with grants := ⟨.a, .a, .a, .a, .a⟩ } } .o rowZoneRearm [0], _, rfl,
      rfl, rfl, by decide, by decide⟩,
    ⟨.faultSetup .o, serving (granted ⟨.a, .a, .a, .a, .a⟩) .o rowFaultSetup [0xFF, 0xFF, 1, 2, 0, 1, 0, 0, 2], _, rfl, rfl,
      rfl, by decide⟩⟩

/-- Reset with E_f set. -/
def estimated (e : Nat) : State := { State.reset with ambient := { State.reset.ambient with filtered := some e } }

theorem witness_CurveLuminanceFollowsTheLines :
    (CurveLaw defaultCurve ∧ 0 ≤ defaultCurve.e0.b ∧ defaultCurve.e8.b ≤ 120000 ∧
        ((defaultCurve.get 1).b ≤ 10 ∧ 10 < (defaultCurve.get 2).b) ∧
        ((defaultCurve.get 1).b ≤ 99 ∧ 99 < (defaultCurve.get 2).b)) ∧
      (∃ s : State, s.ambient.filtered = some 120000) ∧
      (∃ (s : State) (a : ActiveEpoch), s.ambient.filtered = none ∧ s.clock.valid = true ∧ s.clock.active = some a) ∧
      ∃ s : State, s.ambient.filtered = none ∧ ¬ScheduleValid s :=
  ⟨by decide, ⟨estimated 120000, rfl⟩, ⟨scheduled, _, rfl, rfl, rfl⟩, ⟨.reset, rfl, by decide⟩⟩

theorem witness_CeilingIsTheLeastLimitInForce :
    ∃ (s : State) (z : Zone), s.supply.inReset = false ∧ s.installed z = true :=
  ⟨installed, 0, rfl, by decide⟩

/-- `lockedZero`, locked out while lit, rearmed. -/
def lockedLit : State :=
  lockedZero.withResolver (lockedZero.resolver.set 0 { lockedZero.resolver.get 0 with present := 4400 })
def rearmed : State := after (serving lockedLit .o rowZoneRearm [0]) (.zoneRearm .o)

/-- R116: the present level stands until the next expiry. -/
theorem test_rearm_keeps : (rearmed.resolver.get 0).present = 4400 := by decide
/-- R116, 01 "Slew figures": raised from 0 by the up-step of grade 0. -/
theorem test_rearm_rises : ((after rearmed .resolveExpiry).resolver.get 0).present = 2 := by decide

theorem witness_ResolveExpiryResolvesEveryInstalledZone :
    (∃ s : State, s.supply.inReset = false ∧ s.installed 1 = false ∧ s.installed 0 = true ∧
        (s.resolver.get 0).operator = .on ∧ ¬∃ e ∈ s.authority.stack, Covers e .force 0) ∧
      (∃ s : State, s.supply.inReset = false ∧ s.installed 0 = true ∧ (s.resolver.get 0).fromZero = true ∧
        0 < (s.resolver.get 0).present) ∧
      ∃ s : State, s.supply.inReset = false ∧ s.installed 0 = true ∧ (∃ e ∈ s.authority.stack, Covers e .force 0) ∧
        ∃ e ∈ s.authority.stack, Covers e .blank 0 :=
  ⟨⟨installed, rfl, by decide, by decide, rfl, by decide⟩, ⟨rearmed, rfl, by decide, by decide, by decide⟩, ⟨threeEntries, rfl, by decide, by decide, by decide⟩⟩

theorem witness_PresentLevelStaysUnderCeilingAndLmax :
    ∃ s t : State, OutputLaw s ∧ s.supply.inReset = false ∧ exec .resolveExpiry s = .next t ∧ s.installed 0 = true ∧
      s.installed 1 = false :=
  ⟨lit, _, by decide, rfl, rfl, by decide, by decide⟩

theorem witness_FailsafeCeilingBoundsEveryZoneNotForced :
    ∃ s t : State, OutputLaw s ∧ s.supply.inReset = false ∧ exec .resolveExpiry s = .next t ∧
      s.authority.mode = .failsafe ∧ ∀ e ∈ s.authority.stack, ¬Covers e .force 0 :=
  ⟨lit, _, by decide, rfl, rfl, rfl, by decide⟩

theorem witness_FilterMovesTowardTheFusedValue :
    (1 ≤ 1 ∧ 1 ≤ 16 ∧ 0 ≤ 120000 ∧ 120000 ≤ 120000 ∧ 0 < 120000) ∧ (∃ alpha e f : Nat, alpha = 16 ∧ f < e) ∧
      ∃ e f : Nat, e = f :=
  ⟨by decide, ⟨16, 120000, 0, rfl, by decide⟩, 0, 0, rfl⟩

theorem witness_GateCompletionJudgesEverySensor : ∃ s : State, s.supply.inReset = false := ⟨.reset, rfl⟩

theorem witness_GateCompletionFusesGradesAndFilters :
    (∃ s : State, s.supply.inReset = false ∧ s.ambient.filtered = none ∧ ¬ScheduleValid s) ∧
      (∃ (s : State) (a : ActiveEpoch), s.supply.inReset = false ∧ s.clock.valid = true ∧ s.clock.active = some a) ∧
      (∃ (s : State) (e : Nat), s.supply.inReset = false ∧ s.ambient.filtered = some e ∧ s.ambient.spike < 2 ∧
        (after s (.gateCompletion 900 900 900)).ambient.grade ≠ 0 ∧
        4 * e + 64 < (after s (.gateCompletion 900 900 900)).ambient.fused) ∧
      ∃ (s : State) (e : Nat), s.supply.inReset = false ∧ s.ambient.filtered = some e ∧
        (after s (.gateCompletion 900 900 900)).ambient.fused ≤ 4 * e + 64 :=
  ⟨⟨.reset, rfl, rfl, by decide⟩, ⟨scheduled, _, rfl, rfl, rfl⟩,
    ⟨estimated 208, 208, rfl, rfl, by decide, by decide, by decide⟩, ⟨estimated 209, 209, rfl, rfl, by decide⟩⟩

theorem witness_GateCompletionReportsSensorsAndGradeDrops : ∃ s : State, s.supply.inReset = false := ⟨scheduled, rfl⟩

theorem witness_CalendarAdvancesBySeconds :
    (∃ t : CivilTime, t.valid = true ∧ t ≠ ⟨2099, 12, 31, 23, 59, 59⟩) ∧
      (∃ t : CivilTime, t.valid = true ∧ t = ⟨2099, 12, 31, 23, 59, 59⟩) ∧
      (∃ y : Nat, y % 4 = 0) ∧ ∃ y : Nat, y % 4 ≠ 0 :=
  ⟨⟨⟨2099, 12, 31, 23, 59, 58⟩, by decide, by decide⟩, ⟨_, by decide, rfl⟩, ⟨2096, rfl⟩, 2099, by decide⟩

/-- `scheduled` at a second of its minute. -/
def atSecond (n : Nat) : State :=
  { scheduled with clock := { scheduled.clock with time := { scheduled.clock.time with second := n } } }

/-- Reset with the timebase failed. -/
def failed : State := { State.reset with clock := { State.reset.clock with failed := true, prescaler := 32767 } }

theorem witness_ClockEventsMoveTheClock :
    (∃ s : State, s.clock.failed = false ∧ s.clock.time.second = 59 ∧ s.clock.valid = true) ∧
      (∃ s : State, s.clock.failed = false ∧ s.clock.time.second < 59) ∧
      (∃ s : State, s.supply.inReset = false ∧ s.clock.failed = false ∧ s.clock.valid = true) ∧
      ∃ s : State, s.clock.failed = true ∧ s.clock.valid = false ∧ ¬s.clock.prescaler + 1 < 32768 :=
  ⟨⟨atSecond 59, rfl, rfl, rfl⟩, ⟨atSecond 58, rfl, by decide⟩, ⟨scheduled, rfl, rfl, rfl⟩, ⟨failed, rfl, rfl, by decide⟩⟩

theorem witness_EvaluationChoosesTheLatestStart :
    (∃ (time : CivilTime) (i : Fin 24), (weekTable.get i).today time = true) ∧
      (∃ time : CivilTime, (∀ i, (weekTable.get i).today time = false) ∧ ∃ i, (weekTable.get i).yesterday time = true) ∧
      ∃ time : CivilTime, ∀ i : Fin 24,
        ((EpochBank.ofFn fun _ => defaultEpoch).get i).today time = false ∧
          ((EpochBank.ofFn fun _ => defaultEpoch).get i).yesterday time = false :=
  ⟨⟨⟨2031, 6, 11, 6, 0, 0⟩, 0, by rw [today_passing (week_passes 0)]; decide⟩,
    ⟨⟨2031, 6, 11, 5, 59, 0⟩, fun i => by rw [today_passing (week_passes i)]; revert i; decide, 0,
      by rw [yesterday_passing (week_passes 0)]; decide⟩,
    ⟨⟨2031, 6, 11, 6, 0, 0⟩, by decide⟩⟩

theorem scheduled_passes (i : Fin 24) : (scheduled.clock.epochs.get i).passes = true := by
  rw [show scheduled.clock.epochs = State.reset.clock.epochs.set 2 (entryFrom 0) from rfl, EpochBank.get_set]
  split
  · simp [entryFrom]
  · simp [State.reset, clockAfterLoss, defaultEpoch]

theorem witness_DamagedEntriesAreSkippedAndReportedOnce :
    (∃ (s : State) (a : ActiveEpoch), s.supply.inReset = false ∧ s.evaluate.clock.active = some a) ∧
      ∃ c s t, exec c s = .next t ∧ (t.clock.epochs.get 23).fields ≠ (s.clock.epochs.get 23).fields :=
  ⟨⟨scheduled, ⟨2, 3000, 5000, 900, false⟩, rfl, by
      have h : scheduled.evaluate.clock.active = evaluateTable scheduled.clock.time scheduled.clock.epochs := rfl
      rw [h, evaluate_passing scheduled_passes]; decide⟩,
    ⟨.backupStorageDisturbance 23 brightest, .reset, _, rfl, by decide⟩⟩

theorem witness_UptimeSecondCountsDownAndMeasures : ∃ s : State, s.supply.inReset = false := ⟨lastSecond, rfl⟩

theorem witness_ExpiredOverridesLeaveAndSilenceEndsNormal :
    (∃ (s : State) (e : Override), s.supply.inReset = false ∧
      (s.authority.stack.filter fun x => decide (x.remaining = .seconds 0)).getLast? = some e) ∧
      ∃ s : State, s.supply.inReset = false ∧ s.authority.mode = .normal ∧ s.authority.presence = .seconds 0 :=
  ⟨⟨withStack .reset [⟨7, .cap, 1, 0, 0, .seconds 0⟩, ⟨8, .cap, 1, 0, 0, .seconds 1⟩], ⟨7, .cap, 1, 0, 0, .seconds 0⟩, rfl,
      by decide⟩,
    ⟨{ lastSecond with authority := { lastSecond.authority with presence := .seconds 0 } }, rfl, rfl, rfl⟩⟩

/-- Reset with a level of EBLANK taken. -/
def sampled (high : Bool) : State := { State.reset with authority := { State.reset.authority with eblank := some high } }

theorem witness_EblankEdgesBeginAndEndTheKill :
    (∃ (s : State) (high : Bool), s.supply.inReset = false ∧ s.authority.eblank = some (!high) ∧
        (high = true ↔ s.authority.kill.polarity = .activeHigh)) ∧
      (∃ (s : State) (high : Bool), s.supply.inReset = false ∧ s.authority.eblank = none ∧
        (high = true ↔ s.authority.kill.polarity = .activeHigh)) ∧
      (∃ (s : State) (high : Bool), s.supply.inReset = false ∧ s.authority.eblank = some (!high) ∧
        (high = true ↔ s.authority.kill.polarity = .activeLow)) ∧
      ∃ (s : State) (high : Bool), s.supply.inReset = false ∧ s.authority.eblank = none ∧
        (high = true ↔ s.authority.kill.polarity = .activeLow) :=
  ⟨⟨sampled true, false, rfl, rfl, by decide⟩, ⟨.reset, false, rfl, rfl, by decide⟩,
    ⟨sampled false, true, rfl, rfl, by decide⟩, ⟨.reset, true, rfl, rfl, by decide⟩⟩

/-- A state with the window of zone 0 set. -/
def withWindow (s : State) (w : Window) : State := s.modMonitor 0 fun m => { m with window := w }

theorem witness_PeriodEndFormsTheNextPeriod :
    (∃ s : State, s.supply.inReset = false ∧ (s.drive.zones.get 1).record.installed = false) ∧
      (∃ s : State, s.supply.inReset = false ∧ (s.drive.zones.get 0).record.installed = true ∧
        (s.drive.zones.get 0).record.phase ≠ (s.drive.zones.get 0).phase) ∧
      (∃ s : State, s.supply.inReset = false ∧ (s.drive.zones.get 0).record.installed = true ∧
        (s.drive.zones.get 0).record.phase = (s.drive.zones.get 0).phase ∧
        (s.monitor.zones.get 0).window ≠ .waiting) ∧
      (∃ s : State, s.supply.inReset = false ∧ (s.drive.zones.get 0).record.installed = true ∧
        (s.drive.zones.get 0).record.phase = (s.drive.zones.get 0).phase ∧
        (s.monitor.zones.get 0).window = .waiting ∧ (s.drive.zones.get 0).hold = false ∧
        (s.drive.zones.get 0).activeMode = .pwm) ∧
      ∃ s : State, s.supply.inReset = false ∧ (s.drive.zones.get 0).record.installed = true ∧
        (s.drive.zones.get 0).record.phase = (s.drive.zones.get 0).phase ∧
        (s.monitor.zones.get 0).window = .waiting ∧ (s.drive.zones.get 0).hold = true ∧ s.lockedOut 0 = true :=
  ⟨⟨.reset, rfl, by decide⟩,
    ⟨withChannel lit 0 fun c => { c with record := { c.record with phase := 4095 } }, rfl, by decide, by decide⟩,
    ⟨lit, rfl, by decide, by decide, by decide⟩,
    ⟨withWindow lit .waiting, rfl, by decide, by decide, by decide, by decide, by decide⟩,
    ⟨withWindow lockedZero .waiting, rfl, by decide, by decide, by decide, by decide, by decide⟩⟩

theorem witness_SixteenPeriodsCarryTheFraction :
    (∃ duty acc : Nat, duty ≤ 65535 ∧ acc ≤ 15) ∧ (∃ c : Channel, c.hold = true) ∧
      (∃ (c : Channel) (n : Nat), c.hold = false ∧ c.activeMode = .pwm ∧ c.compare ≤ 4096 ∧ c.compare = 4096 ∧ n < c.compare) ∧
      (∃ (c : Channel) (n : Nat), c.hold = false ∧ c.activeMode = .pwm ∧ ¬n < c.compare) ∧
      (∃ c : Channel, c.hold = false ∧ c.activeMode = .off) ∧ (∃ c : Channel, c.hold = false ∧ c.activeMode = .float) ∧
      ∃ (s : State) (z : Zone), s.drive.sharedCount ≤ 4095 ∧ (s.drive.zones.get z).phase ≤ 4095 ∧
        s.drive.sharedCount < (s.drive.zones.get z).phase :=
  ⟨⟨65535, 15, le_refl _, le_refl _⟩, ⟨lockedZero.drive.zones.get 0, by decide⟩,
    ⟨{ lit.drive.zones.get 0 with compare := 4096 }, 4095, by decide, by decide, by decide, by decide, by decide⟩,
    ⟨lit.drive.zones.get 0, 0, by decide, by decide, by decide⟩, ⟨installed.drive.zones.get 0, by decide, by decide⟩,
    ⟨State.reset.drive.zones.get 0, by decide, by decide⟩, ⟨.reset, 15, by decide, by decide, by decide⟩⟩

/-- Reset with a swap mode, an edge mode and a level of FSYNC taken. -/
def framed (m : SwapMode) (e : EdgeMode) (f : Option Bool) (lost : Bool) : State :=
  { State.reset with drive := { State.reset.drive with swapMode := m, edgeMode := e, fsync := f, syncLost := lost } }

theorem witness_SyncEventsArmAndTheirLossIsRecorded :
    (∃ (s : State) (high : Bool), s.supply.inReset = false ∧ s.drive.fsync = some (!high) ∧
        (s.drive.edgeMode = .rising ∧ high = true) ∧ s.drive.swapMode = .frame ∧ s.drive.syncLost = true) ∧
      (∃ (s : State) (high : Bool), s.supply.inReset = false ∧ s.drive.fsync = some (!high) ∧
        s.drive.edgeMode = .both ∧ s.drive.swapMode = .auto) ∧
      (∃ s : State, s.supply.inReset = false ∧ s.drive.fsync = none) ∧
      (∃ (s : State) (high : Bool), s.supply.inReset = false ∧ s.drive.edgeMode = .falling ∧ high = true) ∧
      ∃ s : State, s.supply.inReset = false ∧ s.drive.swapMode = .frame ∧ s.drive.edgeMode ≠ .disabled ∧
        s.drive.syncLost = false :=
  ⟨⟨framed .frame .rising (some false) true, true, rfl, rfl, ⟨rfl, rfl⟩, rfl, rfl⟩,
    ⟨framed .auto .both (some true) false, false, rfl, rfl, rfl, rfl⟩, ⟨.reset, rfl, rfl⟩,
    ⟨framed .auto .falling (some false) false, true, rfl, rfl, rfl⟩,
    ⟨framed .frame .both none false, rfl, rfl, by decide, rfl⟩⟩

theorem witness_OutcomesMoveTheQualificationCount :
    (∃ s : State, (s.entry 0 .openString).count + 1 < s.monitor.limit) ∧
      (∃ s : State, s.monitor.limit ≤ (s.entry 0 .shortString).count + 1 ∧ (s.entry 0 .shortString).asserted = true ∧
        1 < (s.entry 0 .shortString).count) ∧
      (∃ s : State, s.monitor.limit ≤ (s.entry 0 .shortString).count + 1 ∧ (s.entry 0 .shortString).asserted = false ∧
        (s.monitor.zones.get 0).reaction .shortString = .off) ∧
      (∃ s : State, s.monitor.limit ≤ (s.entry 0 .openString).count + 1 ∧ (s.entry 0 .openString).asserted = false ∧
        (s.monitor.zones.get 0).reaction .openString ≠ .off) ∧
      (∃ s : State, (s.entry 0 .stuckOn).count ≤ 1 ∧ (s.entry 0 .stuckOn).asserted = true) ∧
      ∃ s : State, (s.entry 0 .stuckOn).count ≤ 1 ∧ (s.entry 0 .stuckOn).asserted = false :=
  ⟨⟨installed, by decide⟩, ⟨lockedZero, by decide, by decide, by decide⟩,
    ⟨installed.setEntry 0 .shortString ⟨5, false, 255, none⟩, by decide, by decide, by decide⟩,
    ⟨installed.setEntry 0 .openString ⟨5, false, 0, none⟩, by decide, by decide, by decide⟩,
    ⟨installed.setEntry 0 .stuckOn ⟨1, true, 1, none⟩, by decide, by decide⟩, ⟨installed, by decide, by decide⟩⟩

theorem witness_SamplesAndConversionsAreQualified :
    (∃ s : State, s.supply.inReset = false ∧ s.installed 0 = true ∧ s.lockedOut 0 = false ∧
        (s.monitor.zones.get 0).window = .opened (some 1024) (some 3072)) ∧
      (∃ s : State, s.supply.inReset = false ∧ s.installed 0 = true ∧ s.lockedOut 0 = false ∧
        (s.monitor.zones.get 0).window = .opened none (some 4095)) ∧
      (∃ s : State, s.supply.inReset = false ∧ s.installed 0 = true ∧ s.monitor.scan = some ⟨0, false⟩) ∧
      ∃ s : State, s.supply.inReset = false ∧ s.monitor.scan = some ⟨15, true⟩ :=
  ⟨⟨withWindow lit (.opened (some 1024) (some 3072)), rfl, by decide, by decide, by decide⟩,
    ⟨withWindow lit (.opened none (some 4095)), rfl, by decide, by decide, by decide⟩,
    ⟨{ lit with monitor := { lit.monitor with scan := some ⟨0, false⟩ } }, rfl, by decide, rfl⟩,
    ⟨{ lit with monitor := { lit.monitor with scan := some ⟨15, true⟩ } }, rfl, rfl⟩⟩

theorem witness_AppendKeepsTheNewestAndCountsForBothPorts :
    (∃ r : Recorder, r.journal.length < 48 ∧ r.journal.length = 47) ∧
      ∃ r : Recorder, r.journal.length = 48 ∧ r.unread.a = 47 ∧ r.unread.o = 48 :=
  ⟨⟨{ recorderAfterReset true true with journal := List.replicate 47 (deviceRecord (.uptime 0) .kill .raised 0) },
      by decide, by decide⟩,
    ⟨{ recorderAfterReset true true with
        journal := List.replicate 48 (deviceRecord (.uptime 0) .kill .raised 0), unread := ⟨47, 48⟩ },
      by decide, rfl, rfl⟩⟩

/-- Reset with what both ports receive. -/
def receiving (a o : Receive) : State :=
  { State.reset with ports := ⟨{ State.reset.ports.a with receive := a }, { State.reset.ports.o with receive := o }⟩ }

theorem witness_WriteTransactionsAreReceivedAndTaken :
    (∃ s : State, s.supply.inReset = false ∧ (s.ports.get .a).receive = .idle) ∧
      (∃ s : State, s.supply.inReset = false ∧ (s.ports.get .a).receive = .receiving none [] 0) ∧
      (∃ s : State, s.supply.inReset = false ∧
        (s.ports.get .a).receive = .receiving (some 8) (List.replicate 48 0) 255) ∧
      (∃ (s : State) (t : State), s.supply.inReset = false ∧ s.store.serving = none ∧
        s.ports.a.receive = .receiving (some 1) [] 0 ∧ s.ports.o.receive = .receiving (some 2) [] 0 ∧
        exec (.requestTaken .both) s = .next t) ∧
      ∃ s : State, s.supply.inReset = false ∧ (s.ports.get .a).receive = .receiving (some 1) [] 0 ∧
        s.authority.mode = .failsafe ∧ s.authority.origin = .presence ∧ (s.ports.get .a).receive ≠ .idle :=
  ⟨⟨.reset, rfl, rfl⟩, ⟨receiving (.receiving none [] 0) .idle, rfl, rfl⟩,
    ⟨receiving (.receiving (some 8) (List.replicate 48 0) 255) .idle, rfl, rfl⟩,
    ⟨receiving (.receiving (some 1) [] 0) (.receiving (some 2) [] 0), _, rfl, rfl, rfl, rfl, rfl⟩,
    ⟨{ receiving (.receiving (some 1) [] 0) .idle with
        authority := { State.reset.authority with origin := .presence } }, rfl, rfl, rfl, rfl, by decide⟩⟩

theorem witness_RequestBytesReachTheSlot :
    ∃ s : State, s.supply.inReset = false ∧ (s.ports.get .o).slot = none ∧ (s.ports.get .o).receive = .idle :=
  ⟨.reset, rfl, rfl, rfl⟩

theorem witness_ReadTransactionsSendTheResponse :
    (∃ s : State, s.supply.inReset = false ∧ (s.ports.get .a).receive = .idle ∧
        (s.ports.get .a).response.data.length = 1) ∧
      (∃ (s : State) (addr : Address), s.supply.inReset = false ∧ (s.ports.get .a).receive = .idle ∧
        addr ≠ (s.ports.get .a).address) ∧
      (∃ s : State, LinkLaw s ∧ s.supply.inReset = true) ∧
      (∃ s : State, s.supply.inReset = false ∧ (s.ports.get .a).receive ≠ .idle ∧
        (s.ports.get .a).receive = .receiving (some 1) [] 0) ∧
      ∃ s t : State, LinkLaw s ∧ s.supply.inReset = false ∧ (s.ports.get .o).slot.isSome = true ∧
        exec (.responseRead .o (s.ports.get .o).address) s = .next t :=
  ⟨⟨after (serving .reset .a rowOvrClear []) (.ovrClear .a), by decide, by decide, by decide⟩,
    ⟨.reset, 0x2D, rfl, rfl, by decide⟩, ⟨inReset, by decide, by decide⟩,
    ⟨receiving (.receiving (some 1) [] 0) .idle, rfl, by decide, rfl⟩,
    ⟨serving .reset .o rowStatus [], _, by decide, rfl, by decide, rfl⟩⟩

theorem witness_RefusedRequestsChangeNothing :
    (∃ (c : Instr) (s : State) (r : Request), requestOf c = some (rowGainWrite, .o) ∧ InService s .o rowGainWrite r ∧
        r.count ≠ rowGainWrite.argBytes) ∧
      (∃ (c : Instr) (s : State) (r : Request), requestOf c = some (rowGainWrite, .a) ∧ InService s .a rowGainWrite r ∧
        r.count = rowGainWrite.argBytes ∧ ¬MayMake s .a rowGainWrite) ∧
      (∃ (c : Instr) (s t : State) (r : Request), requestOf c = some (rowGainWrite, .o) ∧ InService s .o rowGainWrite r ∧
        exec c s = .next t ∧ (t.ports.get .o).response.status ≠ .ok) ∧
      (∃ (s : State) (r : Request), s.supply.inReset = false ∧ s.store.serving = some .a ∧
        (s.ports.get .a).slot = some r ∧ ∀ row ∈ catalogue, row.code ≠ r.code) ∧
      ∃ s t : State, s.supply.inReset = false ∧ (s.ports.get .a).receive = .receiving (some 1) [] 0 ∧
        exec (.requestTaken (.one .a)) s = .next t :=
  ⟨⟨.gainWrite .o, serving .reset .o rowGainWrite [0, 1, 0], _, rfl, serving_in_service _ _ _ _ rfl, by decide⟩,
    ⟨.gainWrite .a, serving .reset .a rowGainWrite [0, 1, 0, 5], _, rfl, serving_in_service _ _ _ _ rfl, by decide,
      fun h => by cases h⟩,
    ⟨.gainWrite .o, serving .reset .o rowGainWrite [0, 0, 0, 5], _, _, rfl, serving_in_service _ _ _ _ rfl, rfl,
      by decide⟩,
    ⟨serving .reset .a ⟨0x23, .either, 0⟩ [], _, rfl, rfl, rfl, by decide⟩,
    ⟨receiving (.receiving (some 1) [] 0) .idle, _, rfl, rfl, rfl⟩⟩

theorem witness_ReadsAnswerAndChangeNothing :
    (∃ (s : State) (r : Request), requestOf (.status .o) = some (rowStatus, .o) ∧ Admitted s .o rowStatus r) ∧
      (∃ (s : State) (r : Request), Admitted s .a rowClockRead r) ∧ (∃ (s : State) (r : Request), Admitted s .a rowCurveRead r) ∧
      (∃ (s : State) (r : Request), Admitted s .a rowSensorRead r) ∧ (∃ (s : State) (r : Request), Admitted s .a rowGainRead r) ∧
      (∃ (s : State) (r : Request), Admitted s .a rowOvrList r) ∧ (∃ (s : State) (r : Request), Admitted s .a rowAuthRead r) ∧
      (∃ (s : State) (r : Request), Admitted s .a rowGrantRead r) ∧
      (∃ (s : State) (r : Request), Admitted s .a rowEpochRead r ∧ r.u1 0 = 23) ∧
      (∃ (s : State) (r : Request), Admitted s .a rowEpochRead r ∧ r.u1 0 = 24) ∧
      (∃ (s : State) (r : Request), Admitted s .a rowZoneRead r ∧ r.u1 0 = 15) ∧
      (∃ (s : State) (r : Request), Admitted s .a rowLevelRead r ∧ r.u1 0 = 15) ∧
      (∃ (s : State) (r : Request), Admitted s .a rowFaultRead r ∧ r.u1 0 = 15) ∧
      ∃ (s : State) (r : Request), Admitted s .a rowFaultRead r ∧ r.u1 0 = 16 :=
  ⟨⟨_, _, rfl, serving_admitted .reset .o rowStatus [] rfl rfl rfl⟩,
    ⟨_, _, serving_admitted .reset .a rowClockRead [] rfl rfl rfl⟩, ⟨_, _, serving_admitted .reset .a rowCurveRead [] rfl rfl rfl⟩,
    ⟨_, _, serving_admitted .reset .a rowSensorRead [] rfl rfl rfl⟩, ⟨_, _, serving_admitted .reset .a rowGainRead [] rfl rfl rfl⟩,
    ⟨_, _, serving_admitted .reset .a rowOvrList [] rfl rfl rfl⟩, ⟨_, _, serving_admitted .reset .a rowAuthRead [] rfl rfl rfl⟩,
    ⟨_, _, serving_admitted .reset .a rowGrantRead [] rfl rfl rfl⟩,
    ⟨_, _, serving_admitted .reset .a rowEpochRead [23] rfl rfl rfl, by decide⟩,
    ⟨_, _, serving_admitted .reset .a rowEpochRead [24] rfl rfl rfl, by decide⟩,
    ⟨_, _, serving_admitted .reset .a rowZoneRead [15] rfl rfl rfl, by decide⟩,
    ⟨_, _, serving_admitted .reset .a rowLevelRead [15] rfl rfl rfl, by decide⟩,
    ⟨_, _, serving_admitted .reset .a rowFaultRead [15] rfl rfl rfl, by decide⟩,
    ⟨_, _, serving_admitted .reset .a rowFaultRead [16] rfl rfl rfl, by decide⟩⟩

theorem witness_ZoneReadsCarryTheZonesState :
    (∃ (s : State) (r : Request), ZoneRangeLaw s ∧ CompareLaw s ∧ QualificationLaw s ∧ r.u1 0 = (0 : Zone).val ∧
        Admitted s .a rowLevelRead r) ∧
      (∃ (s : State) (r : Request), ZoneRangeLaw s ∧ CompareLaw s ∧ QualificationLaw s ∧ r.u1 0 = (15 : Zone).val ∧
        Admitted s .a rowZoneRead r) ∧
      ∃ (s : State) (r : Request), ZoneRangeLaw s ∧ CompareLaw s ∧ QualificationLaw s ∧ r.u1 0 = (0 : Zone).val ∧
        Admitted s .o rowFaultRead r :=
  ⟨⟨serving lockedZero .a rowLevelRead [0], requestFor rowLevelRead [0], by decide, by decide, by decide, by decide,
      serving_admitted lockedZero .a rowLevelRead [0] rfl rfl rfl⟩,
    ⟨serving lockedZero .a rowZoneRead [15], requestFor rowZoneRead [15], by decide, by decide, by decide, by decide,
      serving_admitted lockedZero .a rowZoneRead [15] rfl rfl rfl⟩,
    ⟨serving lockedZero .o rowFaultRead [0], requestFor rowFaultRead [0], by decide, by decide, by decide, by decide,
      serving_admitted lockedZero .o rowFaultRead [0] rfl rfl rfl⟩⟩

/-- The ranges under which the device's reads are stated. -/
abbrev DeviceRanges (s : State) : Prop :=
  ScheduleLaw s ∧ AmbientLaw s ∧ AuthorityLaw s ∧ StackLaw s ∧ CurveLaw s.ambient.curve ∧ s.supply.uptime < 4294967296 ∧
    s.supply.battery.getD 0 ≤ 7 ∧ ∀ z, (s.resolver.get z).gain ≤ 256

/-- `threeEntries` with the schedule of `scheduled` and the greatest uptime count. -/
def reading : State :=
  { threeEntries with
    clock := scheduled.clock, supply := { threeEntries.supply with uptime := 4294967295, battery := some 7 } }

theorem reading_ranges : DeviceRanges reading :=
  ⟨by decide, by decide, by decide, by decide, by decide, by decide, by decide, by decide⟩

theorem serving_ranges (p : Port) (row : CatalogueRow) (args : List Byte) : DeviceRanges (serving reading p row args) :=
  reading_ranges

theorem witness_DeviceReadsCarryTheDevicesState :
    (∃ (s : State) (r : Request), DeviceRanges s ∧ Admitted s .o rowStatus r) ∧
      (∃ (s : State) (r : Request), DeviceRanges s ∧ Admitted s .o rowClockRead r) ∧
      (∃ (s : State) (r : Request), DeviceRanges s ∧ r.u1 0 = (2 : Fin 24).val ∧ Admitted s .o rowEpochRead r) ∧
      (∃ (s : State) (r : Request), DeviceRanges s ∧ Admitted s .o rowCurveRead r) ∧
      (∃ (s : State) (r : Request), DeviceRanges s ∧ Admitted s .o rowSensorRead r) ∧
      (∃ (s : State) (r : Request), DeviceRanges s ∧ Admitted s .o rowGainRead r) ∧
      (∃ (s : State) (r : Request), DeviceRanges s ∧ Admitted s .o rowOvrList r ∧ 2 < s.authority.stack.length) ∧
      (∃ (s : State) (r : Request), DeviceRanges s ∧ Admitted s .o rowAuthRead r) ∧
      ∃ (s : State) (r : Request), DeviceRanges s ∧ Admitted s .o rowGrantRead r :=
  ⟨⟨_, _, serving_ranges _ _ _, serving_admitted reading .o rowStatus [] rfl rfl rfl⟩,
    ⟨_, _, serving_ranges _ _ _, serving_admitted reading .o rowClockRead [] rfl rfl rfl⟩,
    ⟨serving reading .o rowEpochRead [2], requestFor rowEpochRead [2], serving_ranges _ _ _, by decide,
      serving_admitted reading .o rowEpochRead [2] rfl rfl rfl⟩,
    ⟨_, _, serving_ranges _ _ _, serving_admitted reading .o rowCurveRead [] rfl rfl rfl⟩,
    ⟨_, _, serving_ranges _ _ _, serving_admitted reading .o rowSensorRead [] rfl rfl rfl⟩,
    ⟨_, _, serving_ranges _ _ _, serving_admitted reading .o rowGainRead [] rfl rfl rfl⟩,
    ⟨_, _, serving_ranges _ _ _, serving_admitted reading .o rowOvrList [] rfl rfl rfl, by decide⟩,
    ⟨_, _, serving_ranges _ _ _, serving_admitted reading .o rowAuthRead [] rfl rfl rfl⟩,
    ⟨_, _, serving_ranges _ _ _, serving_admitted reading .o rowGrantRead [] rfl rfl rfl⟩⟩

/-- Some state and request, admitted on the port for the row, meet a condition. -/
def Meets (p : Port) (row : CatalogueRow) (c : State → Request → Prop) : Prop :=
  ∃ (s : State) (r : Request), Admitted s p row r ∧ c s r

theorem meets {p : Port} {row : CatalogueRow} {c : State → Request → Prop} (s : State) (args : List Byte)
    (h : s.supply.inReset = false) (n : args.length = row.argBytes) (may : permitted s.store.grants p row.access = true)
    (holds : c (serving s p row args) (requestFor row args)) : Meets p row c :=
  ⟨_, _, serving_admitted s p row args h n may, holds⟩

/-- Some request of the row, of the right length, is in service on the port without the right. -/
def Denied (p : Port) (row : CatalogueRow) : Prop :=
  ∃ (s : State) (r : Request), InService s p row r ∧ r.count = row.argBytes ∧ ¬MayMake s p row

theorem denied {p : Port} {row : CatalogueRow} (may : permitted State.reset.store.grants p row.access = false) :
    Denied p row :=
  ⟨serving .reset p row (List.replicate row.argBytes 0), _, serving_in_service _ _ _ _ rfl, by simp [requestFor],
    fun h => Bool.noConfusion (may.symm.trans (permitted_iff.2 h))⟩

/-- The clause DENIED of every write's statement, on the map of a total loss. -/
theorem witness_DeniedWithoutRight :
    (Denied .o rowClockSet ∧ Denied .o rowEpochWrite ∧ Denied .o rowEpochErase ∧ Denied .a rowCurveWrite ∧
        Denied .a rowSensorSetup ∧ Denied .o rowZoneSetup) ∧
      (Denied .a rowGainWrite ∧ Denied .a rowZoneMode ∧ Denied .o rowOvrPush ∧ Denied .o rowOvrRemove ∧
        Denied .o rowOvrClear ∧ Denied .o rowKillSetup) ∧
      Denied .o rowKillRelease ∧ Denied .o rowAuthSetup ∧ Denied .o rowGrantSet ∧ Denied .a rowFaultSetup ∧
        Denied .a rowZoneRearm ∧ Denied .a rowDriveSetup :=
  ⟨⟨denied rfl, denied rfl, denied rfl, denied rfl, denied rfl, denied rfl⟩,
    ⟨denied rfl, denied rfl, denied rfl, denied rfl, denied rfl, denied rfl⟩,
    denied rfl, denied rfl, denied rfl, denied rfl, denied rfl, denied rfl⟩

theorem witness_ClockAndEpochRequestsStoreAndEvaluate :
    Meets .a rowClockSet (fun _ r =>
      (CivilTime.mk (2000 + r.u1 0) (r.u1 1) (r.u1 2) (r.u1 3) (r.u1 4) (r.u1 5)).valid = false) ∧
      Meets .a rowClockSet (fun s r =>
        (CivilTime.mk (2000 + r.u1 0) (r.u1 1) (r.u1 2) (r.u1 3) (r.u1 4) (r.u1 5)).valid = true ∧
          s.clock.failed = true) ∧
      Meets .a rowClockSet (fun s r =>
        (CivilTime.mk (2000 + r.u1 0) (r.u1 1) (r.u1 2) (r.u1 3) (r.u1 4) (r.u1 5)).valid = true ∧
          s.clock.failed = false) ∧
      Meets .a rowEpochWrite (fun _ r => r.u1 0 = 24) ∧
      Meets .a rowEpochWrite (fun _ r => r.u1 0 = 23 ∧ r.u2 4 = 1440) ∧
      Meets .a rowEpochWrite (fun _ r =>
        r.u1 0 = (23 : Fin 24).val ∧ (BitVec.ofNat 12 (r.u2 1) : MonthMask) ≠ 0 ∧
          (BitVec.ofNat 7 (r.u1 3) : WeekdayMask) ≠ 0 ∧ r.u2 4 = 1439) ∧
      Meets .a rowEpochErase (fun _ r => r.u1 0 = 24) ∧ Meets .a rowEpochErase (fun _ r => r.u1 0 = (23 : Fin 24).val) :=
  ⟨meets .reset [0, 0, 1, 0, 0, 0] rfl rfl rfl (by decide), meets failed [99, 12, 31, 23, 59, 59] rfl rfl rfl (by decide),
    meets .reset [99, 12, 31, 23, 59, 59] rfl rfl rfl (by decide),
    meets .reset [24, 0, 1, 1, 0, 0, 0, 0, 0, 0, 0, 0, 0, 0] rfl rfl rfl (by decide),
    meets .reset [23, 0, 1, 1, 0x05, 0xA0, 0, 0, 0, 0, 0, 0, 0, 0] rfl rfl rfl (by decide),
    meets .reset [23, 0, 1, 1, 0x05, 0x9F, 0, 0, 0, 0, 0, 0, 0, 0] rfl rfl rfl (by decide),
    meets .reset [24] rfl rfl rfl (by decide), meets .reset [23] rfl rfl rfl (by decide)⟩

/-- The curve that a request's bytes spell. -/
def curveOf (r : Request) : PointBank CurvePoint := .ofFn fun i => ⟨r.u3 (5 * i.val), r.u2 (5 * i.val + 3)⟩

theorem witness_CurveAndSensorSetupAreCheckedWhole :
    Meets .o rowCurveWrite (fun _ r => ¬∀ q ∈ (curveOf r).toList, q.b ≤ 120000 ∧ q.l ≤ 12000) ∧
      Meets .o rowCurveWrite (fun _ r =>
        (∀ q ∈ (curveOf r).toList, q.b ≤ 120000 ∧ q.l ≤ 12000) ∧ ¬Ordered (curveOf r).toList) ∧
      Meets .o rowCurveWrite (fun _ r =>
        (∀ q ∈ (curveOf r).toList, q.b ≤ 120000 ∧ q.l ≤ 12000) ∧ Ordered (curveOf r).toList) ∧
      Meets .o rowSensorSetup (fun _ r => r.u2 1 = 0) ∧
      Meets .o rowSensorSetup (fun _ r => r.u2 1 = 1 ∧ r.u2 4 = 65535 ∧ r.u2 7 ≠ 0) :=
  ⟨meets .reset (List.replicate 45 0xFF) rfl rfl rfl (by decide), meets .reset (List.replicate 45 0) rfl rfl rfl (by decide),
    meets .reset curveArgs rfl rfl rfl (by decide), meets .reset [1, 0, 0, 1, 0, 1, 1, 0, 1, 4] rfl rfl rfl (by decide),
    meets .reset [1, 0, 1, 1, 0xFF, 0xFF, 1, 0, 1, 4] rfl rfl rfl (by decide)⟩

theorem witness_ZoneSetupInstallsUninstallsAndStages :
    Meets .a rowZoneSetup (fun _ r => r.u1 0 = 16) ∧ Meets .a rowZoneSetup (fun _ r => r.u1 2 = 2) ∧
      Meets .a rowZoneSetup (fun s r =>
        r.u1 0 = (15 : Zone).val ∧ r.u1 2 = ZoneClass.commercial.code ∧ r.u1 3 = Polarity.activeHigh.zoneCode ∧
          r.u1 1 ≠ 0 ∧ (s.drive.zones.get 15).record.installed = false) ∧
      Meets .a rowZoneSetup (fun s r =>
        r.u1 0 = (0 : Zone).val ∧ r.u1 2 = ZoneClass.authority.code ∧ r.u1 3 = Polarity.activeLow.zoneCode ∧
          r.u1 1 = 0 ∧ (s.drive.zones.get 0).record.installed = true) ∧
      Meets .a rowZoneSetup (fun s r =>
        r.u1 0 = (0 : Zone).val ∧ r.u1 2 = ZoneClass.commercial.code ∧ r.u1 3 = Polarity.activeHigh.zoneCode ∧
          (r.u1 1 ≠ 0 ↔ (s.drive.zones.get 0).record.installed = true)) :=
  ⟨meets .reset [16, 1, 0, 0, 0, 100, 8, 0, 0] rfl rfl rfl (by decide),
    meets .reset [15, 1, 2, 0, 0, 100, 8, 0, 0] rfl rfl rfl (by decide),
    meets .reset [15, 1, 0, 0, 0, 99, 64, 0x10, 0] rfl rfl rfl (by decide),
    meets lockedZero [0, 0, 1, 1, 0, 100, 63, 0, 0] rfl rfl rfl (by decide),
    meets lit [0, 0xFF, 0, 0, 0, 100, 63, 0, 0] rfl rfl rfl (by decide)⟩

theorem witness_OperatorWritesReachEveryZoneOfTheirMask :
    Meets .o rowGainWrite (fun _ r => (BitVec.ofNat 16 (r.u2 0) : ZoneMask) = 0) ∧
      Meets .o rowGainWrite (fun _ r => (BitVec.ofNat 16 (r.u2 0) : ZoneMask) ≠ 0 ∧ r.u2 2 = 257) ∧
      Meets .o rowZoneMode (fun _ r => (BitVec.ofNat 16 (r.u2 0) : ZoneMask) ≠ 0 ∧ r.u1 2 = 2) ∧
      Meets .o rowZoneMode (fun _ r => (BitVec.ofNat 16 (r.u2 0) : ZoneMask) ≠ 0 ∧ r.u1 2 = 1) :=
  ⟨meets .reset [0, 0, 1, 1] rfl rfl rfl (by decide), meets .reset [0x80, 0, 1, 1] rfl rfl rfl (by decide),
    meets .reset [0x80, 0, 2] rfl rfl rfl (by decide), meets installed [0x80, 1, 1] rfl rfl rfl (by decide)⟩

/-- A stack of eight entries, ids 1 to 8, all of priority 1 but entry 3 of priority 0. -/
def fullStack : State :=
  withStack installed ((List.range 8).map fun i => override (i + 1) .cap 500 (if i = 2 then 0 else 1))

theorem witness_OverridePushReplacesAppendsOrEvicts :
    Meets .a rowOvrPush (fun s r => StackLaw s ∧ r.u1 1 = 4) ∧
      Meets .a rowOvrPush (fun s r =>
        StackLaw s ∧ r.u1 1 = OverrideKind.force.code ∧ r.u1 0 = 2 ∧ (BitVec.ofNat 16 (r.u2 2) : ZoneMask) ≠ 0 ∧
          r.u1 6 < 4 ∧
          s.authority.stack =
            [override 1 .cap 500 1] ++ override 2 .blank 0 0 :: [override 3 .force 7000 2]) ∧
      Meets .a rowOvrPush (fun s r =>
        StackLaw s ∧ r.u1 1 = OverrideKind.cap.code ∧ r.u1 0 = 255 ∧ (BitVec.ofNat 16 (r.u2 2) : ZoneMask) ≠ 0 ∧
          r.u1 6 = 3 ∧ (∀ x ∈ s.authority.stack, x.id ≠ 255) ∧ s.authority.stack.length < 8) ∧
      Meets .a rowOvrPush (fun s r =>
        StackLaw s ∧ r.u1 1 = OverrideKind.blank.code ∧ r.u1 0 = 9 ∧ (BitVec.ofNat 16 (r.u2 2) : ZoneMask) ≠ 0 ∧
          (∀ x ∈ s.authority.stack, x.id ≠ 9) ∧ s.authority.stack.length = 8 ∧
          s.authority.stack = s.authority.stack.take 2 ++ override 3 .cap 500 0 :: s.authority.stack.drop 3 ∧
          (∀ y ∈ s.authority.stack.take 2, 0 < y.priority) ∧ (∀ y ∈ s.authority.stack.drop 3, 0 ≤ y.priority) ∧
          0 < r.u1 6) ∧
      Meets .a rowOvrPush (fun s r =>
        StackLaw s ∧ r.u1 1 = OverrideKind.blank.code ∧ r.u1 0 = 9 ∧ (BitVec.ofNat 16 (r.u2 2) : ZoneMask) ≠ 0 ∧
          (∀ x ∈ s.authority.stack, x.id ≠ 9) ∧ s.authority.stack.length = 8 ∧
          s.authority.stack = s.authority.stack.take 2 ++ override 3 .cap 500 0 :: s.authority.stack.drop 3 ∧
          (∀ y ∈ s.authority.stack.take 2, 0 < y.priority) ∧ (∀ y ∈ s.authority.stack.drop 3, 0 ≤ y.priority) ∧
          r.u1 6 ≤ 0) :=
  ⟨meets .reset [1, 4, 0, 1, 0, 0, 0, 0, 0] rfl rfl rfl (by decide),
    meets threeEntries [2, 3, 0, 1, 0, 9, 0, 0, 0] rfl rfl rfl (by decide),
    meets threeEntries [255, 1, 0x80, 0, 0xFF, 0xFF, 3, 0xFF, 0xFF] rfl rfl rfl (by decide),
    meets fullStack [9, 2, 0, 1, 0, 9, 1, 0, 1] rfl rfl rfl (by decide),
    meets fullStack [9, 2, 0, 1, 0, 9, 0, 0, 1] rfl rfl rfl (by decide)⟩

theorem witness_OverrideRemoveAndClearTakeEntriesAway :
    Meets .a rowOvrRemove (fun s r => StackLaw s ∧ r.u1 0 = 0) ∧
      Meets .a rowOvrRemove (fun s r => StackLaw s ∧ r.u1 0 ≠ 0 ∧ ∀ x ∈ s.authority.stack, x.id ≠ r.u1 0) ∧
      Meets .a rowOvrRemove (fun s r =>
        StackLaw s ∧ r.u1 0 ≠ 0 ∧
          s.authority.stack = [] ++ override 1 .cap 500 1 :: [override 2 .blank 0 0, override 3 .force 7000 2] ∧
          (override 1 .cap 500 1).id = r.u1 0) ∧
      Meets .a rowOvrClear (fun s _ => StackLaw s) :=
  ⟨meets threeEntries [0] rfl rfl rfl (by decide), meets threeEntries [4] rfl rfl rfl (by decide),
    meets threeEntries [1] rfl rfl rfl (by decide), meets fullStack [] rfl rfl rfl (by decide)⟩

/-- Reset with a level of EBLANK taken in LATCH mode and the latch as given. -/
def latched (high latch : Bool) : State :=
  { State.reset with
    authority :=
      { State.reset.authority with
        eblank := some high, latch, kill := ⟨.latch, .activeHigh, 0xFFFF⟩ } }

theorem witness_KillRequestsFormTheKillAfresh :
    Meets .a rowKillSetup (fun _ r => r.u1 0 = 2) ∧
      Meets .a rowKillSetup (fun _ r => r.u1 0 = 0 ∧ r.u1 1 = 0 ∧ (BitVec.ofNat 16 (r.u2 2) : ZoneMask) = 0) ∧
      Meets .a rowKillSetup (fun s r =>
        r.u1 0 = KillMode.latch.code ∧ r.u1 1 = Polarity.activeHigh.killCode ∧
          (BitVec.ofNat 16 (r.u2 2) : ZoneMask) ≠ 0 ∧ s.authority.eblank = some true) ∧
      Meets .a rowKillSetup (fun s r =>
        r.u1 0 = KillMode.level.code ∧ r.u1 1 = Polarity.activeLow.killCode ∧
          (BitVec.ofNat 16 (r.u2 2) : ZoneMask) ≠ 0 ∧ s.authority.latch = true) ∧
      Meets .a rowKillRelease (fun s _ => s.authority.latch = false) ∧
      Meets .a rowKillRelease (fun s _ => s.authority.latch = true ∧ s.authority.eblankActive = true) ∧
      Meets .a rowKillRelease (fun s _ =>
        s.authority.latch = true ∧ s.authority.eblankActive = false ∧ s.authority.kill.mode = .latch) :=
  ⟨meets .reset [2, 0, 0, 1] rfl rfl rfl (by decide), meets .reset [0, 0, 0, 0] rfl rfl rfl (by decide),
    meets (sampled true) [BitVec.ofNat 8 KillMode.latch.code, BitVec.ofNat 8 Polarity.activeHigh.killCode, 0x80, 0] rfl rfl rfl
      (by decide),
    meets (latched true true) [BitVec.ofNat 8 KillMode.level.code, BitVec.ofNat 8 Polarity.activeLow.killCode, 0, 1] rfl rfl rfl
      (by decide),
    meets .reset [] rfl rfl rfl rfl, meets (latched true true) [] rfl rfl rfl (by decide),
    meets (latched false true) [] rfl rfl rfl (by decide)⟩

theorem witness_AuthorityRecordsAreStoredWhole :
    Meets .a rowAuthSetup (fun _ r =>
      max (-35) (min 149 (r.s2 14)) ≤ max (-40) (min 150 (r.s2 12)) ∧ r.s2 12 = 90 ∧ r.s2 14 = 90) ∧
      Meets .a rowAuthSetup (fun _ r =>
        max (-40) (min 150 (r.s2 12)) < max (-35) (min 149 (r.s2 14)) ∧ r.s2 12 = -1 ∧ r.s2 14 = 0) ∧
      Meets .a rowGrantSet (fun _ r => r.u1 4 = 2) ∧
      Meets .a rowGrantSet (fun s r =>
        r.u1 0 = holderCode .a ∧ r.u1 1 = holderCode .o ∧ r.u1 2 = holderCode .a ∧ r.u1 3 = holderCode .o ∧
          r.u1 4 = holderCode .a ∧ (Port.a ≠ s.store.grants.curve ∧ s.ambient.setupPending = true)) :=
  ⟨meets .reset [0, 0, 0, 0, 0, 0, 0, 0, 0, 0, 0, 0, 0, 90, 0, 90] rfl rfl rfl (by decide),
    meets .reset [0, 0, 0, 0, 0, 9, 0, 0, 0, 0, 0, 0, 0xFF, 0xFF, 0, 0] rfl rfl rfl (by decide),
    meets .reset [0, 0, 0, 0, 2] rfl rfl rfl (by decide),
    meets { State.reset with ambient := { State.reset.ambient with setupPending := true } } [0, 1, 0, 1, 0] rfl rfl rfl
      (by decide)⟩

/-- `installed` with an asserted SHORT under a reaction other than OFF. -/
def dimmed : State :=
  (installed.setEntry 0 .shortString ⟨6, true, 1, some (.uptime 0)⟩).modMonitor 0 fun m => { m with shortReaction := .dim }

theorem witness_FaultSetupStoresLocksAndRequalifies :
    Meets .o rowFaultSetup (fun _ r => r.u1 4 = 2) ∧
      Meets .o rowFaultSetup (fun _ r => (BitVec.ofNat 16 (r.u2 0) : ZoneMask) ≠ 0 ∧ r.u1 2 = r.u1 3) ∧
      Meets .o rowFaultSetup (fun s r =>
        (r.u1 4 ≤ 1 ∧ (r.u1 5 = 1 ∨ r.u1 5 = 2) ∧ (r.u1 6 = 0 ∨ r.u1 6 = 2) ∧ (r.u1 7 = 0 ∨ r.u1 7 = 2)) ∧
          r.u1 2 < r.u1 3 ∧ r.u1 4 = Reaction.dim.code ∧ r.u1 5 = Reaction.off.code ∧ r.u1 6 = Reaction.none.code ∧
          r.u1 7 = Reaction.off.code ∧ (BitVec.ofNat 16 (r.u2 0) : ZoneMask).getLsbD 0 = true ∧
          s.installed 0 = true ∧ s.lockedOut 0 = false ∧ (s.entry 0 .shortString).asserted = true ∧
          (s.monitor.zones.get 0).shortReaction ≠ .off) ∧
      Meets .o rowFaultSetup (fun _ r =>
        (BitVec.ofNat 16 (r.u2 0) : ZoneMask) = 0 ∧ r.u1 4 = Reaction.none.code ∧ r.u1 5 = Reaction.dim.code ∧
          r.u1 6 = Reaction.off.code ∧ r.u1 7 = Reaction.none.code) :=
  ⟨meets .reset [0, 1, 10, 20, 2, 1, 0, 0, 6] rfl rfl rfl (by decide),
    meets .reset [0, 1, 20, 20, 1, 1, 0, 0, 6] rfl rfl rfl (by decide),
    meets dimmed [0, 1, 10, 11, 1, 2, 0, 2, 15] rfl rfl rfl (by decide),
    meets .reset [0, 0, 20, 20, 0, 1, 2, 0, 2] rfl rfl rfl (by decide)⟩

theorem witness_RearmClearsCountsAssertsAndLockout :
    Meets .o rowZoneRearm (fun _ r => r.u1 0 = 16) ∧
      Meets .o rowZoneRearm (fun s r => r.u1 0 = (15 : Zone).val ∧ s.installed 15 = false) ∧
      Meets .o rowZoneRearm (fun s r => r.u1 0 = (0 : Zone).val ∧ s.installed 0 = true ∧ s.lockedOut 0 = true ∧
        0 < (s.resolver.get 0).present ∧ (s.resolver.get 0).operator = .on ∧ s.authority.stack = [] ∧
        ¬KillCovers s.authority 0) ∧
      Meets .o rowZoneRearm (fun s r => r.u1 0 = (0 : Zone).val ∧ s.installed 0 = true ∧ s.lockedOut 0 = true ∧
        (s.resolver.get 0).operator = .on ∧ (∃ e ∈ s.authority.stack, Covers e .force 0) ∧
        (¬∃ e ∈ s.authority.stack, Covers e .blank 0) ∧ ¬KillCovers s.authority 0) ∧
      Meets .o rowZoneRearm (fun s r => r.u1 0 = (0 : Zone).val ∧ s.installed 0 = true ∧ s.lockedOut 0 = true ∧
        ∃ e ∈ s.authority.stack, Covers e .blank 0) :=
  ⟨meets .reset [16] rfl rfl rfl (by decide), meets .reset [15] rfl rfl rfl (by decide),
    meets lockedLit [0] rfl rfl rfl (by decide),
    meets (lockedLit.withStack [⟨1, .force, 1, 6000, 0, .never⟩]) [0] rfl rfl rfl (by decide),
    meets (lockedLit.withStack [⟨1, .blank, 1, 0, 0, .never⟩]) [0] rfl rfl rfl (by decide)⟩

theorem witness_PerPortRequestsActOnTheirPortAlone :
    Meets .o rowJournalRead (fun s _ => JournalLaw s ∧ 0 < s.recorder.unread.o) ∧
      Meets .a rowAttnRead (fun s _ => s.attention.lastExpired ≤ 255) ∧ Meets .o rowAttnRead (fun _ _ => True) ∧
      Meets .o rowAttnMask (fun _ r => r.u2 0 = 0xFFFF) ∧ (∃ s : State, s.highestCause .a = Cause.code .failsafe) ∧
      (∃ s : State, ConditionsLaw s ∧ s.supply.battery = some 1) ∧
      Meets .a rowJournalRead (fun s _ => ∃ x, 0 < min 4 (s.recorder.unread.get .a) ∧
        (s.recorder.journal.drop (s.recorder.journal.length - s.recorder.unread.get .a))[0]? = some x) :=
  ⟨meets (after installed (.killStartUpTake false)) [] rfl rfl rfl (by decide), meets .reset [] rfl rfl rfl (by decide),
    meets .reset [] rfl rfl rfl trivial, meets .reset [0xFF, 0xFF] rfl rfl rfl (by decide),
    ⟨after lastSecond (.uptimeSecond 3300 false), by decide⟩, ⟨after lastSecond (.uptimeSecond 2199 false), by decide, by decide⟩,
    meets (after installed (.killStartUpTake false)) [] rfl rfl rfl ⟨_, by decide, rfl⟩⟩

theorem witness_DriveSetupStoresTheTimingWhole :
    Meets .o rowDriveSetup (fun _ r => r.u1 0 = 4) ∧ Meets .o rowDriveSetup (fun _ r => r.u1 2 = 2) ∧
      Meets .o rowDriveSetup (fun s r =>
        (∃ (f : BaseFrequency) (e : EdgeMode), r.u1 0 = f.code ∧ r.u1 1 = e.code ∧ r.u1 0 = 3 ∧ r.u1 1 = 3) ∧
          r.u1 2 = SwapMode.auto.code ∧ s.drive.syncLost = true) :=
  ⟨meets .reset [4, 0, 0] rfl rfl rfl (by decide), meets .reset [0, 0, 2] rfl rfl rfl (by decide),
    meets (framed .frame .rising none true) [3, 3, 0] rfl rfl rfl ⟨⟨.hz4800, .both, by decide, by decide, by decide, by decide⟩, by decide, rfl⟩⟩

theorem witness_SourcesBeginAndHoldAMainReset :
    (∃ s : State, s.supply.supplyLow = false ∧ s.supply.inReset = true) ∧
      (∃ s : State, s.supply.pinLow = false ∧ s.supply.inReset = false) ∧ Meets .a rowDeviceReset (fun _ _ => True) ∧
      (∃ s : State, s.supply.supplyLow = true ∧ s.supply.pinLow = false) ∧
      (∃ s : State, s.supply.pinLow = true ∧ s.supply.supplyLow = false) ∧ (∃ s : State, s.supply.inReset = false) ∧
      ∃ s t, SourceLaw s ∧ s.supply.supplyLow = true ∧ s.pending = [.mainResetEnd 0 0] ∧ step s = .next t :=
  ⟨⟨resetOver, by decide, by decide⟩, ⟨lockedZero, by decide, by decide⟩, meets lockedZero [] rfl rfl rfl trivial,
    ⟨inReset, by decide, by decide⟩, ⟨after .reset .resetNAssert, by decide, by decide⟩, ⟨.reset, rfl⟩,
    inReset.withPending [.mainResetEnd 0 0], _, by decide, by decide, rfl, rfl⟩

theorem witness_MainResetEndRestoresEveryBlock :
    (∃ s : State, s.supply.inReset = true ∧ s.supply.supplyLow = false ∧ s.supply.pinLow = false ∧
        s.supply.retentionLost = false) ∧
      ∃ s : State, s.supply.inReset = true ∧ s.supply.supplyLow = false ∧ s.supply.pinLow = false ∧
        s.supply.retentionLost = true :=
  ⟨⟨resetOver, by decide, by decide, by decide, by decide⟩,
    ⟨{ resetOver with supply := { resetOver.supply with retentionLost := true } }, by decide, by decide, by decide,
      by decide⟩⟩

end Sys2Proof.Tests
end

section
/-! PROOF. O21 and O22: what a resolve expiry leaves of a zone, the stages' bounds on its present level and duty (R16 to R22), and
the failsafe limit among the limits of its ceiling (R9, R23). -/

namespace Sys2Proof.Machine

/-! ### The chosen FORCE and the blanking of a zone (R8, R17) -/

/-- The choice goes through the stack oldest entry first, so that the newest entry is judged against the choice among the older
ones (R8). -/
theorem chosenForce_concat (l : List Override) (x : Override) (z : Zone) :
    chosenForce (l ++ [x]) z =
      if x.covers .force z then
        match chosenForce l z with
        | none => some x
        | some b => if b.priority ≤ x.priority then some x else chosenForce l z
      else chosenForce l z :=
  List.foldl_concat _ _ _ _

/-- A zone has a chosen FORCE exactly when a FORCE entry covers it (R8). -/
theorem chosenForce_isSome_iff (stack : List Override) (z : Zone) :
    (chosenForce stack z).isSome = true ↔ ∃ e ∈ stack, Covers e .force z := by
  induction stack using List.reverseRecOn with
  | nil => simp [chosenForce]
  | append_singleton l x ih =>
    simp only [chosenForce_concat, List.mem_append, List.mem_singleton, or_and_right, exists_or, exists_eq_left,
      ← Override.covers_iff x]
    by_cases hx : x.covers .force z = true
    · rw [if_pos hx]
      cases older : chosenForce l z with
      | none => simp [hx]
      | some b => by_cases rank : b.priority ≤ x.priority <;> simp [hx, rank]
    · simp [hx, ih]

/-- A zone is blanked by a covering BLANK entry, by the kill, by its lockout, or by the operator mode OFF (R17). -/
theorem State.blanked_iff (s : State) (z : Zone) :
    s.blanked z = true ↔
      (∃ e ∈ s.authority.stack, Covers e .blank z) ∨ s.authority.killFor z = true ∨ s.lockedOut z = true ∨
        (s.resolver.get z).operator = .off := by
  simp only [State.blanked, Bool.or_eq_true, List.any_eq_true, Override.covers_iff, beq_iff_eq, or_assoc]

/-! ### The present level and the duty (R18 to R21) -/

section

variable {a : AuthSettings} {grade p t c : Nat} {force : Bool}

@[simp] theorem newPresent_of_blanked : newPresent a grade true force p t c = 0 := rfl

theorem newPresent_of_ceiling_lt (h : c < p) : newPresent a grade false force p t c = c := by
  simp [newPresent, h]

theorem newPresent_of_force (h : p ≤ c) : newPresent a grade false true p t c = t := by
  simp [newPresent, Nat.not_lt.mpr h]

/-- A rise stops at the target (R18, R19). -/
theorem newPresent_le_target (h : p ≤ c) (rise : p < t) : newPresent a grade false false p t c ≤ t := by
  simp [newPresent, Nat.not_lt.mpr h, rise]

/-- Without a rise the level stays or falls (R18, R20). -/
theorem newPresent_le_self (h : p ≤ c) (fall : t ≤ p) : newPresent a grade false false p t c ≤ p := by
  simp only [newPresent, Bool.false_eq_true, if_false, if_neg (Nat.not_lt.mpr h), if_neg (Nat.not_lt.mpr fall)]
  split <;> omega

end

theorem dutyOf_le_full (p lmax : Nat) : dutyOf p lmax ≤ 65535 := Nat.min_le_left _ _

@[simp] theorem dutyOf_zero (lmax : Nat) : dutyOf 0 lmax = 0 := by simp [dutyOf]

/-- A higher level has no lower duty (R21). -/
theorem dutyOf_mono {p q : Nat} (h : p ≤ q) (lmax : Nat) : dutyOf p lmax ≤ dutyOf q lmax :=
  min_le_min_left _ (Nat.div_le_div_right (Nat.mul_le_mul_right _ h))

/-! ### What the stages give an installed zone (R16 to R21) -/

variable {s t : State} {z : Zone}

theorem ResolverZone.previous_eq (r : ResolverZone) : r.previous = if r.fromZero then 0 else r.present := rfl

theorem State.resolveZone_present (s : State) (z : Zone) :
    (s.resolveZone z).present =
      newPresent s.authority.settings s.resolverAmbient.2 (s.blanked z) (chosenForce s.authority.stack z).isSome
        (s.resolver.get z).previous (s.resolveZone z).target (s.resolveZone z).ceiling := rfl

theorem State.resolveZone_duty (s : State) (z : Zone) :
    (s.resolveZone z).duty = dutyOf (s.resolveZone z).present (s.drive.zones.get z).record.lmax := rfl

/-- No target lies above the ceiling (R16). -/
theorem State.resolveZone_target_le (s : State) (z : Zone) : (s.resolveZone z).target ≤ (s.resolveZone z).ceiling := by
  simp only [State.resolveZone]
  split <;> omega

/-- A zone under a FORCE has its ceiling as its target (R16). -/
theorem State.resolveZone_target_of_force (h : (chosenForce s.authority.stack z).isSome = true) :
    (s.resolveZone z).target = (s.resolveZone z).ceiling := by
  simp [State.resolveZone, h]

/-- No duty lies above that of the zone at its ceiling (R21, R22). -/
theorem State.resolveZone_duty_le (s : State) (z : Zone) :
    (s.resolveZone z).duty ≤ dutyOf (s.resolveZone z).ceiling (s.drive.zones.get z).record.lmax :=
  dutyOf_mono (s.resolveZone_present_le z) _

/-- Under a ceiling of 0 a zone is dark (R21, R22). -/
theorem State.resolveZone_duty_of_ceiling_zero (h : (s.resolveZone z).ceiling = 0) : (s.resolveZone z).duty = 0 := by
  have dark : (s.resolveZone z).present = 0 := Nat.le_zero.mp (h ▸ s.resolveZone_present_le z)
  rw [resolveZone_duty, dark, dutyOf_zero]

/-! ### The failsafe limit (R9, R23) -/

/-- In FAILSAFE or without a valid schedule the schedule limit is the failsafe ceiling of the class (R9). -/
theorem State.scheduleLimit_of_failsafe (h : s.authority.mode = .failsafe ∨ ¬ScheduleValid s) (cls : ZoneClass) :
    s.scheduleLimit cls = ⟨s.authority.settings.failsafeCeiling cls, .failsafe⟩ := by
  unfold State.scheduleLimit
  split
  case h_1 e mode valid active =>
    have scheduled : ScheduleValid s := ⟨valid, by simp [active]⟩
    rcases h with h | h
    · simp [mode] at h
    · exact absurd scheduled h
  case h_2 => rfl

/-- The schedule limit is in force for every zone without a FORCE (R9, R13). -/
theorem State.ceilingLimit_le_scheduleLimit (free : ∀ e ∈ s.authority.stack, ¬Covers e .force z) :
    (s.ceilingLimit z).value ≤ (s.scheduleLimit (s.drive.zones.get z).record.cls).value := by
  have unforced : chosenForce s.authority.stack z = none := by
    rw [← Option.not_isSome_iff_eq_none, chosenForce_isSome_iff]
    rintro ⟨e, he, covers⟩
    exact free e he covers
  unfold State.ceilingLimit
  rw [unforced]
  exact (leastLimit_spec _ _).2 _ List.mem_cons_self

/-! ### What a resolve expiry leaves of a zone -/

theorem exec_resolveExpiry (s : State) : exec .resolveExpiry s = execResolveExpiry s := by rfl

/-- An installed zone is resolved, an uninstalled one is left as it is (R1, R24). -/
theorem resolver_get_of_resolveExpiry (run : s.supply.inReset = false) (h : exec .resolveExpiry s = .next t) (z : Zone) :
    t.resolver.get z = if s.installed z then s.resolveZone z else s.resolver.get z := by
  rw [exec_resolveExpiry, execResolveExpiry, if_pos (by simp [State.running, run])] at h
  cases h
  exact ZoneBank.get_mapIdx _ _ z

/-- The duty of an installed zone goes to its duty buffer, with a swap pending (R21). -/
theorem drive_get_of_resolveExpiry (run : s.supply.inReset = false) (h : exec .resolveExpiry s = .next t) (z : Zone) :
    t.drive.zones.get z =
      if s.installed z then
        { s.drive.zones.get z with dutyBuffer := (s.resolveZone z).duty, swapPending := true }
      else s.drive.zones.get z := by
  rw [exec_resolveExpiry, execResolveExpiry, if_pos (by simp [State.running, run])] at h
  cases h
  exact ZoneBank.get_mapIdx _ _ z

/-- An uninstalled zone has no level (R24). -/
theorem UninstalledLaw.present_eq_zero (h : UninstalledLaw s z) : (s.resolver.get z).present = 0 := by
  obtain ⟨-, -, -, -, -, -, -, -, -, present, -⟩ := h
  exact present

/-- A resolve expiry leaves an uninstalled zone at 0 (R24). -/
theorem present_eq_zero_of_resolveExpiry (law : OutputLaw s) (run : s.supply.inReset = false)
    (h : exec .resolveExpiry s = .next t) (off : s.installed z = false) : (t.resolver.get z).present = 0 := by
  rw [resolver_get_of_resolveExpiry run h, if_neg (by simp [off])]
  exact ((law z).1 off).present_eq_zero

/-! ### The statements -/

/-- Settles O21: the case of R18 that applies gives the present level, and the ceiling bounds it in every case. -/
theorem presentLevelStaysUnderCeilingAndLmax : Obligations.PresentLevelStaysUnderCeilingAndLmax := by
  intro s t law run h z
  refine ⟨present_eq_zero_of_resolveExpiry law run h, fun on => ?_⟩
  rw [resolver_get_of_resolveExpiry run h, drive_get_of_resolveExpiry run h, if_pos on, if_pos on]
  simp only [← State.blanked_iff, ← chosenForce_isSome_iff, ← ResolverZone.previous_eq, Bool.not_eq_true]
  refine ⟨fun blanked => ?_, fun lit above => ?_, fun lit under forced => ⟨?_, s.resolveZone_target_of_force forced⟩,
    fun lit under free rise => ⟨?_, s.resolveZone_target_le z⟩, fun lit under free fall => ?_,
    s.resolveZone_present_le z, s.ceilingLimit_le_lmax z, dutyOf_le_full _ _, trivial, s.resolveZone_duty_le z,
    s.resolveZone_duty_of_ceiling_zero⟩
  · rw [s.resolveZone_present, blanked, newPresent_of_blanked]
  · rw [s.resolveZone_present, lit, newPresent_of_ceiling_lt above]
  · rw [s.resolveZone_present, lit, forced, newPresent_of_force under]
  · rw [s.resolveZone_present, lit, free]
    exact newPresent_le_target under rise
  · rw [s.resolveZone_present, lit, free]
    exact newPresent_le_self under fall

/-- Settles O22: without a FORCE the failsafe ceiling is among the limits whose least is the zone's ceiling. -/
theorem failsafeCeilingBoundsEveryZoneNotForced : Obligations.FailsafeCeilingBoundsEveryZoneNotForced := by
  intro s t law run h failsafe z free
  have dark := present_eq_zero_of_resolveExpiry law run h (z := z)
  refine ⟨?_, dark, fun on => ?_⟩
  · cases on : s.installed z with
    | false => rw [dark on]; exact Nat.zero_le _
    | true =>
      rw [resolver_get_of_resolveExpiry run h, if_pos on]
      calc (s.resolveZone z).present
          ≤ (s.ceilingLimit z).value := s.resolveZone_present_le z
        _ ≤ (s.scheduleLimit (s.drive.zones.get z).record.cls).value := State.ceilingLimit_le_scheduleLimit free
        _ = s.authority.settings.failsafeCeiling (s.drive.zones.get z).record.cls := by
          rw [State.scheduleLimit_of_failsafe failsafe]
  · rw [resolver_get_of_resolveExpiry run h, drive_get_of_resolveExpiry run h, if_pos on, if_pos on]
    exact ⟨rfl, rfl⟩

end Sys2Proof.Machine
end

section
/-! PROOF. O8, O9 and O48: the ways in which a command can leave the Ambient Estimator, said once for all commands, what each of
them keeps of the curve and of the estimator's ranges (R27, R40, R43), and the checks of CURVE_WRITE and SENSOR_SETUP. -/

namespace Sys2Proof.Machine

variable {s t : State} {c : Instr} {p : Port} {row : CatalogueRow} {r : Request}

/-! ### The ways in which a command can leave the estimator -/

/-- A step idles, or it executes the command at the front of the queue over the queue's rest. -/
theorem step_cases (h : step s = .next t) :
    t = s ∨ ∃ c rest, s.pending = c :: rest ∧ exec c (s.withPending rest) = .next t := by
  unfold step at h
  split at h
  case h_1 => cases h; exact .inl rfl
  case h_2 c rest queue => exact .inr ⟨c, rest, queue, h⟩

theorem forall_fin_three {q : Fin 3 → Prop} : (∀ i, q i) ↔ q 0 ∧ q 1 ∧ q 2 :=
  ⟨fun h => ⟨h 0, h 1, h 2⟩, fun ⟨h0, h1, h2⟩ i => by fin_cases i <;> assumption⟩

/-- The ways in which a command can leave the Ambient Estimator. -/
inductive AmbientChange (s : State) : Instr → Ambient → Prop
  /-- Every command may leave it as it is. -/
  | kept (c : Instr) : AmbientChange s c s.ambient
  /-- R29: a gate completion runs its stages. -/
  | gate (e0 e1 e2 : Nat) :
      AmbientChange s (.gateCompletion e0 e1 e2) (s.ambient.afterGate s.fallback (SensorBank.get ⟨e0, e1, e2⟩))
  /-- R42: a curve that passes both checks replaces the curve. -/
  | curve (p : Port) (r : Request) (inRange : curveInRange r.curve = true)
      (ordered : pointsOrdered r.curve.toList = true) :
      AmbientChange s (.curveWrite p) { s.ambient with curve := r.curve }
  /-- R28: a sensor setup without a zero scale is staged, its alpha clamped. -/
  | setup (p : Port) (r : Request) (scale : ∀ i : Fin 3, (r.sensorSetup.sensors.get i).scale ≠ 0) :
      AmbientChange s (.sensorSetup p)
        { s.ambient with
          staged := { r.sensorSetup with alpha := clamp 1 16 r.sensorSetup.alpha }, setupPending := true }
  /-- R137: a change of the CURVE grant withdraws a staged setup. -/
  | withdrawn (p : Port) : AmbientChange s (.grantSet p) s.ambient.withdrawn
  /-- R165: the end of a main reset gives it its reset values. -/
  | reset (a o : Fin 4) : AmbientChange s (.mainResetEnd a o) ambientAfterReset

theorem AmbientChange.of_eq {a : Ambient} (h : a = s.ambient) : AmbientChange s c a := h ▸ .kept c

/-- A service leaves the estimator as its rule does. -/
theorem serve_ambient {body : Request → State → State × Response} (own : ∀ r, (body r s).1.ambient = s.ambient) :
    (s.serve p row body).ambient = s.ambient :=
  serve_keeps (P := fun u => u.ambient = s.ambient) (fun _ _ kept => kept) rfl own

@[simp] theorem serveRead_ambient {resp : Request → State → Response} :
    (s.serveRead p row resp).ambient = s.ambient := serve_ambient fun _ => rfl

/-- A service changes the estimator in a way of the command if its rule does. -/
theorem AmbientChange.serve {body : Request → State → State × Response}
    (own : ∀ r, AmbientChange s c (body r s).1.ambient) : AmbientChange s c (s.serve p row body).ambient :=
  serve_keeps (P := fun u => AmbientChange s c u.ambient) (fun _ _ kept => kept) (.kept c) own

@[simp] theorem State.reportLoss_ambient (s : State) (lost : Bool) : (s.reportLoss lost).ambient = s.ambient := by
  cases lost <;> rfl

/-- A gate completion runs its stages while the main domain runs (R29). -/
theorem gateCompletion_ambient {e0 e1 e2 : Nat} (h : exec (.gateCompletion e0 e1 e2) s = .next t) :
    t.ambient =
      if s.running then s.ambient.afterGate s.fallback (SensorBank.get ⟨e0, e1, e2⟩) else s.ambient := by
  cases h
  split
  · dsimp only
    split <;> simp
  · rfl

/-- The end of a main reset gives the estimator its reset values (R163, R165). -/
theorem mainResetEnd_ambient {a o : Fin 4} (h : exec (.mainResetEnd a o) s = .next t) :
    t.ambient =
      if s.supply.inReset && !s.supply.supplyLow && !s.supply.pinLow then ambientAfterReset else s.ambient := by
  cases h
  split
  · simp [State.resetMain]
  · rfl

/-- A change of the CURVE grant withdraws a staged setup, and nothing else reaches the estimator (R137). -/
theorem State.setGrants_ambient (s : State) (g : GrantMap) :
    (s.setGrants g).1.ambient = s.ambient ∨ (s.setGrants g).1.ambient = s.ambient.withdrawn := by
  unfold State.setGrants
  dsimp only
  split
  · right; split <;> rfl
  · left; split <;> rfl

/-- What every command can do to the estimator: five commands reach it, the requests and events of the other blocks do not. -/
theorem exec_ambient (h : exec c s = .next t) : AmbientChange s c t.ambient := by
  cases c with
  | gateCompletion e0 e1 e2 =>
    rw [gateCompletion_ambient h]
    split
    · exact .gate e0 e1 e2
    · exact .kept _
  | mainResetEnd a o =>
    rw [mainResetEnd_ambient h]
    split
    · exact .reset a o
    · exact .kept _
  | curveWrite p =>
    cases h
    refine .serve fun r => ?_
    split
    next => exact .kept _
    next inRange =>
      split
      next => exact .kept _
      next ordered => exact .curve p r (by simpa using inRange) (by simpa using ordered)
  | sensorSetup p =>
    cases h
    refine .serve fun r => ?_
    dsimp only
    split
    next => exact .kept _
    next scale =>
      simp only [not_or] at scale
      exact .setup p r (forall_fin_three.2 scale)
  | grantSet p =>
    cases h
    refine .serve fun r => ?_
    split
    next => exact .kept _
    next g _ =>
      rcases s.setGrants_ambient g with same | withdrawn
      · exact .of_eq same
      · dsimp only; rw [withdrawn]; exact .withdrawn p
  -- the requests that only read
  | status p | clockRead p | epochRead p | curveRead p | sensorRead p | zoneRead p | gainRead p | levelRead p | ovrList p
  | authRead p | grantRead p | faultRead p => cases h; exact .of_eq serveRead_ambient
  -- the other requests with a rule of their own
  | clockSet p | epochWrite p | epochErase p | zoneSetup p | gainWrite p | zoneMode p | ovrPush p | ovrRemove p | ovrClear p
  | killSetup p | killRelease p | authSetup p | faultSetup p | zoneRearm p | journalRead p | attnRead p | attnMask p
  | driveSetup p =>
    cases h
    refine .of_eq (serve_ambient fun r => ?_)
    repeat' ((try dsimp only); split)
    all_goals simp
  -- the events of the other blocks, the link's and the resets' beginnings
  | resolveExpiry | secondRollover | timebaseFailure p | timebaseFirstEdge | backupStorageDisturbance i contents
  | uptimeSecond mv first | overrideExpired | presenceTimeout | eblankActiveEdge | eblankInactiveEdge
  | killStartUpTake high | periodEnd z | countClockSwitch | fsyncLevelTaken high | syncEvent high | syncWatchExpiry
  | samplePoint z pt current | conversionCompletion code | writeAddress p addr | dataByte p b | requestTaken w
  | responseRead p addr | unknownCode p | deviceReset p | brownOut | mainSupplyRise | resetNAssert | resetNRelease
  | retentionLoss =>
    cases h
    refine .of_eq ?_
    repeat' split
    all_goals simp

/-! ### The Ambient Curve (R41 to R43) -/

/-- R42 compares neighbours, R43 any two points: the two orders are transitive. -/
theorem pointsOrdered_iff (l : List CurvePoint) : pointsOrdered l = true ↔ Ordered l := by
  have trans : IsTrans CurvePoint fun p q => p.b < q.b ∧ p.l ≤ q.l :=
    ⟨fun _ _ _ ⟨b, l⟩ ⟨b', l'⟩ => ⟨b.trans b', l.trans l'⟩⟩
  rw [Ordered, ← List.isChain_iff_pairwise]
  induction l with
  | nil => simp [pointsOrdered]
  | cons p l ih =>
    cases l with
    | nil => simp [pointsOrdered]
    | cons q rest => simp [pointsOrdered, ih]

theorem curveInRange_iff (k : PointBank CurvePoint) :
    curveInRange k = true ↔ ∀ q ∈ k.toList, q.b ≤ 120000 ∧ q.l ≤ 12000 := by
  simp [curveInRange]

/-- The checks of CURVE_WRITE are the law (R42, R43). -/
theorem curveLaw_of_checks {k : PointBank CurvePoint} (inRange : curveInRange k = true)
    (ordered : pointsOrdered k.toList = true) : CurveLaw k :=
  ⟨(pointsOrdered_iff _).1 ordered, (curveInRange_iff k).1 inRange⟩

theorem curveLaw_defaultCurve : CurveLaw defaultCurve := by decide

/-- A command leaves the curve as it is or gives it one that keeps the law. -/
theorem AmbientChange.curve_eq_or_law {a : Ambient} (h : AmbientChange s c a) :
    a.curve = s.ambient.curve ∨ CurveLaw a.curve := by
  cases h with
  | kept | gate | setup | withdrawn => exact .inl rfl
  | curve p r inRange ordered => exact .inr (curveLaw_of_checks inRange ordered)
  | reset => exact .inr curveLaw_defaultCurve

/-! ### The stages of a gate completion (R29 to R39) -/

theorem sensorAfterGate_count_le (e : SensorSetup) (x : Sensor) (n : Nat) :
    (sensorAfterGate e x n).count ≤ 262143 := Nat.min_le_left _ _

theorem sensorLux_le (e : SensorSetup) (n : Nat) : sensorLux e n ≤ 120000 := by
  unfold sensorLux
  split
  · exact Nat.min_le_left _ _
  · exact Nat.zero_le _

theorem stuckAfter_le (e : SensorSetup) (x : Sensor) (n : Nat) : stuckAfter e x n ≤ 600 := by
  unfold stuckAfter
  repeat' split
  case isFalse.isFalse.isTrue => exact Nat.min_le_left _ _
  all_goals decide

theorem mem_validLux {b : SensorBank Sensor} {n : Nat} :
    n ∈ validLux b ↔ ∃ i, (b.get i).reason = .none ∧ (b.get i).lux = n := by
  simp [validLux, Fin.exists_fin_succ, SensorBank.get, or_and_right, exists_or]

theorem validLux_eq_nil_iff (b : SensorBank Sensor) : validLux b = [] ↔ ∀ i, (b.get i).reason ≠ .none := by
  simp only [List.eq_nil_iff_forall_not_mem, mem_validLux]
  exact ⟨fun none i valid => none _ ⟨i, valid, rfl⟩, fun invalid _ ⟨i, valid, _⟩ => invalid i valid⟩

/-- The fused value lies under any bound of the fallback lux and the valid lux values (R34, R36). -/
theorem fuse_le {fallback bound : Nat} {l : List Nat} (h : fallback ≤ bound) (all : ∀ n ∈ l, n ≤ bound) :
    fuse fallback l ≤ bound := by
  match l with
  | [] => exact h
  | [x] => simpa [fuse] using all
  | [x, y] =>
    simp only [List.forall_mem_cons] at all
    simp only [fuse]; omega
  | x :: y :: z :: _ =>
    simp only [List.forall_mem_cons] at all
    simp only [fuse, median]; omega

theorem gradeOf_cons (f n : Nat) (l : List Nat) : gradeOf f (n :: l) = 1 ∨ gradeOf f (n :: l) = 2 := by
  cases l with
  | nil => exact .inl rfl
  | cons m l => simp only [gradeOf]; split <;> simp

theorem gradeOf_le (f : Nat) (l : List Nat) : gradeOf f l ≤ 2 := by
  cases l with
  | nil => exact Nat.zero_le 2
  | cons n l => rcases gradeOf_cons f n l with h | h <;> omega

theorem gradeOf_eq_zero_iff (f : Nat) (l : List Nat) : gradeOf f l = 0 ↔ l = [] := by
  cases l with
  | nil => simp [gradeOf]
  | cons n l => rcases gradeOf_cons f n l with h | h <;> simp [h]

theorem filterStep_le (alpha e f : Nat) : filterStep alpha e f ≤ 120000 := by
  simp only [filterStep, clampInt, Config.luxMax]; omega

/-- E_f is kept over a screened spike, of which at most two come in a row, or moved by the filter step (R37, R38). -/
theorem screenAndFilter_some (alpha grade f e spike : Nat) :
    spike < 2 ∧ screenAndFilter alpha grade f (some e) spike = (e, spike + 1) ∨
      screenAndFilter alpha grade f (some e) spike = (filterStep alpha e f, 0) := by
  simp only [screenAndFilter]
  split
  next screened => exact .inl ⟨screened.2.2, rfl⟩
  next => exact .inr rfl

theorem screenAndFilter_le {alpha grade f spike : Nat} {filtered : Option Nat} (fused : f ≤ 120000)
    (before : filtered.getD 0 ≤ 120000) :
    (screenAndFilter alpha grade f filtered spike).1 ≤ 120000 ∧
      (screenAndFilter alpha grade f filtered spike).2 ≤ 2 := by
  cases filtered with
  | none => exact ⟨fused, Nat.zero_le 2⟩
  | some e =>
    rcases screenAndFilter_some alpha grade f e spike with ⟨room, kept⟩ | moved
    · rw [kept]; exact ⟨before, room⟩
    · rw [moved]; exact ⟨filterStep_le .., Nat.zero_le 2⟩

/-! ### The estimator's law (R27, R40, R44) -/

/-- The fallback lux lies in its range under the law of the active epoch (R4, R36, R60). -/
theorem fallback_le (law : ScheduleLaw s) : s.fallback ≤ 120000 := by
  obtain ⟨-, -, -, -, -, active⟩ := law
  unfold State.fallback
  split
  next e _ h => exact (active e h).2.2
  next => decide

section

variable (m : Ambient) (fallback : Nat) (edges : Fin 3 → Nat)

theorem Ambient.afterGate_working :
    (m.afterGate fallback edges).working = if m.setupPending then m.staged else m.working := rfl

theorem Ambient.afterGate_sensor (i : Fin 3) :
    (m.afterGate fallback edges).sensors.get i =
      sensorAfterGate ((m.afterGate fallback edges).working.sensors.get i) (m.sensors.get i) (edges i) :=
  SensorBank.get_mapIdx _ _ i

theorem Ambient.afterGate_grade :
    (m.afterGate fallback edges).grade =
      gradeOf (m.afterGate fallback edges).fused (validLux (m.afterGate fallback edges).sensors) := rfl

theorem Ambient.afterGate_fused :
    (m.afterGate fallback edges).fused = fuse fallback (validLux (m.afterGate fallback edges).sensors) := rfl

theorem Ambient.afterGate_filtered :
    (m.afterGate fallback edges).filtered =
      some (screenAndFilter (m.afterGate fallback edges).working.alpha (m.afterGate fallback edges).grade
        (m.afterGate fallback edges).fused m.filtered m.spike).1 := rfl

/-- The grade after a gate completion is 0 exactly when no sensor is valid (R35). -/
theorem Ambient.afterGate_grade_eq_zero_iff :
    (m.afterGate fallback edges).grade = 0 ↔ ∀ i, ((m.afterGate fallback edges).sensors.get i).reason ≠ .none := by
  rw [afterGate_grade, gradeOf_eq_zero_iff, validLux_eq_nil_iff]

theorem Ambient.afterGate_grade_le : (m.afterGate fallback edges).grade ≤ 2 := gradeOf_le _ _

theorem Ambient.afterGate_grade_of_valid {i : Fin 3}
    (valid : ((m.afterGate fallback edges).sensors.get i).reason = .none) :
    (m.afterGate fallback edges).grade = 1 ∨ (m.afterGate fallback edges).grade = 2 := by
  have graded := mt (m.afterGate_grade_eq_zero_iff fallback edges).1 fun none => none i valid
  have le := m.afterGate_grade_le fallback edges
  omega

theorem Ambient.afterGate_lux_le (i : Fin 3) : ((m.afterGate fallback edges).sensors.get i).lux ≤ 120000 := by
  rw [afterGate_sensor]; exact sensorLux_le _ _

theorem Ambient.afterGate_fused_le {fallback : Nat} (h : fallback ≤ 120000) :
    (m.afterGate fallback edges).fused ≤ 120000 := by
  rw [afterGate_fused]
  refine fuse_le h fun n valid => ?_
  obtain ⟨i, -, rfl⟩ := mem_validLux.1 valid
  exact m.afterGate_lux_le _ _ i

end

/-- A gate completion keeps the law of the estimator. -/
theorem ambientLaw_afterGate {fallback : Nat} (edges : Fin 3 → Nat) (h : fallback ≤ 120000) (law : AmbientLaw s) :
    AmbientLaw (s.withAmbient (s.ambient.afterGate fallback edges)) := by
  obtain ⟨staged, working, inForce, -, -, filtered, -⟩ := law
  obtain ⟨filtered', spike'⟩ := screenAndFilter_le (s.ambient.afterGate_fused_le edges h) filtered
  refine ⟨staged, ?_, fun _ => ?_, fun i => ?_, s.ambient.afterGate_fused_le edges h, filtered', spike',
    s.ambient.afterGate_grade_le _ _, s.ambient.afterGate_grade_eq_zero_iff _ _, ?_⟩
  · simp only [State.withAmbient_ambient, Ambient.afterGate_working]
    split <;> assumption
  · simp only [State.withAmbient_ambient, Ambient.afterGate_working]
    split
    next => rfl
    next idle => exact inForce (by simpa using idle)
  · simp only [State.withAmbient_ambient, Ambient.afterGate_sensor]
    exact ⟨sensorAfterGate_count_le .., sensorLux_le .., stuckAfter_le ..⟩
  · simp [Ambient.afterGate_filtered]

/-! ### The requests (R28, R134) -/

/-- A port without the right is refused with DENIED, whatever the request's own rule (R134). -/
theorem serve_refuses_denied {body : Request → State → State × Response} (h : InService s p row r)
    (n : r.count = row.argBytes) (d : ¬MayMake s p row) : Refused s (s.serve p row body) p .denied := by
  rw [serve_denied h n d]
  exact refused_complete

theorem Request.sensorSetup_eq (r : Request) :
    r.sensorSetup =
      { sensors := ⟨⟨decide (r.u1 0 ≠ 0), r.u2 1⟩, ⟨decide (r.u1 3 ≠ 0), r.u2 4⟩, ⟨decide (r.u1 6 ≠ 0), r.u2 7⟩⟩
        alpha := r.u1 9 } := by
  simp only [Request.sensorSetup, Request.flag_eq]
  rfl

theorem Request.u2_le (r : Request) (i : Nat) : r.u2 i ≤ 65535 := by
  have hi := r.u1_lt i
  have lo := r.u1_lt (i + 1)
  unfold Request.u2
  omega

/-- A setup without a zero scale is within its ranges once its alpha is clamped (R27, R28). -/
theorem setupLaw_of_request (r : Request) (scale : ∀ i : Fin 3, (r.sensorSetup.sensors.get i).scale ≠ 0) :
    SetupLaw { r.sensorSetup with alpha := clamp 1 16 r.sensorSetup.alpha } := by
  refine ⟨fun i => ⟨Nat.one_le_iff_ne_zero.2 (scale i), ?_⟩, ?_, ?_⟩
  · simp only [Request.sensorSetup, SensorBank.get_ofFn]
    exact r.u2_le _
  · exact Nat.le_max_left ..
  · exact Nat.max_le.2 ⟨by decide, Nat.min_le_left ..⟩

/-! ### What a command keeps of the estimator (R40) -/

theorem ambientLaw_reset : AmbientLaw .reset := by decide

/-- Every way in which a command can leave the estimator keeps its law. -/
theorem AmbientChange.law {a : Ambient} (h : AmbientChange s c a) (schedule : ScheduleLaw s) (law : AmbientLaw s) :
    AmbientLaw (s.withAmbient a) := by
  cases h with
  | kept | curve => exact law
  | gate e0 e1 e2 => exact ambientLaw_afterGate _ (fallback_le schedule) law
  | setup p r scale =>
    obtain ⟨-, working, -, rest⟩ := law
    exact ⟨setupLaw_of_request r scale, working, nofun, rest⟩
  | withdrawn p =>
    obtain ⟨-, working, -, rest⟩ := law
    exact ⟨working, working, fun _ => rfl, rest⟩
  | reset => exact ambientLaw_reset

/-- E_f changes at a gate completion, which sets it to F or moves it by the filter step, and at the end of a main reset, which
unsets it (R37 to R40). -/
theorem AmbientChange.filtered {a : Ambient} (h : AmbientChange s c a) :
    a.filtered = s.ambient.filtered ∨
      (∃ e0 e1 e2, c = .gateCompletion e0 e1 e2 ∧ a.filtered = some (match s.ambient.filtered with
        | none => a.fused
        | some e => filterStep a.working.alpha e a.fused)) ∨
      ((∃ b o, c = .mainResetEnd b o) ∧ a.filtered = none) := by
  cases h with
  | kept | curve | setup | withdrawn => exact .inl rfl
  | reset b o => exact .inr (.inr ⟨⟨b, o, rfl⟩, rfl⟩)
  | gate e0 e1 e2 =>
    rw [Ambient.afterGate_filtered]
    cases s.ambient.filtered with
    | none => exact .inr (.inl ⟨e0, e1, e2, rfl, rfl⟩)
    | some e =>
      rcases screenAndFilter_some _ _ _ e s.ambient.spike with ⟨-, screened⟩ | moved
      · left; rw [screened]
      · exact .inr (.inl ⟨e0, e1, e2, rfl, by rw [moved]⟩)

/-! ### The statements -/

/-- Settles O8: each way in which a command can leave the estimator keeps the curve or gives it a checked one or the default. -/
theorem ambientCurveStaysOrderedAndInRange : Obligations.AmbientCurveStaysOrderedAndInRange := by
  refine ⟨fun s t law h => ?_, curveLaw_defaultCurve, fun s t a o under supply pin h => ?_, fun s t p h =>
    (exec_ambient h).curve_eq_or_law⟩
  · rcases step_cases h with rfl | ⟨c, rest, -, run⟩
    · exact law
    · rcases (exec_ambient run).curve_eq_or_law with same | new
      · rw [same]; exact law
      · exact new
  · rw [mainResetEnd_ambient h, if_pos (by simp [under, supply, pin])]
    rfl

/-- Settles O9: the law by the ways in which a command can leave the estimator, the rest by what a gate completion and the end
of a main reset leave. -/
theorem filteredAmbientAndGradeKeepTheirLaw : Obligations.FilteredAmbientAndGradeKeepTheirLaw := by
  refine ⟨fun s t schedule law h => ?_, fun s t a o under supply pin h => ?_, fun s t e0 e1 e2 run h => ?_,
    fun c s t h changed => (exec_ambient h).filtered.resolve_left changed⟩
  · rcases step_cases h with rfl | ⟨c, rest, -, run⟩
    · exact law
    · exact (exec_ambient run).law schedule law
  · rw [mainResetEnd_ambient h, if_pos (by simp [under, supply, pin])]
    exact ⟨rfl, rfl, fun i => by rw [ambientAfterReset, SensorBank.get_ofFn]⟩
  · rw [gateCompletion_ambient h, if_pos (by simp [State.running, run])]
    refine ⟨rfl, ?_⟩
    split
    next valid =>
      obtain ⟨i, valid⟩ := valid
      exact Ambient.afterGate_grade_of_valid _ _ _ valid
    next invalid => exact (Ambient.afterGate_grade_eq_zero_iff ..).2 fun i valid => invalid ⟨i, valid⟩

/-- Settles O48: each refusal and each stored record is the branch of the request's rule that the checks choose. -/
theorem curveAndSensorSetupAreCheckedWhole : Obligations.CurveAndSensorSetupAreCheckedWhole := by
  refine ⟨fun s p r h n d => ⟨_, rfl, serve_refuses_denied h n d⟩,
    fun s p r h n d => ⟨_, rfl, serve_refuses_denied h n d⟩,
    fun s p r => ⟨fun admitted => ?_, fun admitted => ⟨fun zero => ?_, fun z0 z1 z2 => ?_⟩⟩⟩
  · intro curve inRange
    have range : curveInRange r.curve = true ↔ inRange := curveInRange_iff curve
    have order : pointsOrdered r.curve.toList = true ↔ Ordered curve.toList := pointsOrdered_iff _
    rw [← range, ← order]
    refine ⟨fun out => ?_, fun within unordered => ?_, fun within ordered => ?_⟩
    · exact ⟨_, rfl, serve_refuses admitted (by simp [out])⟩
    · exact ⟨_, rfl, serve_refuses admitted (by simp [within, unordered])⟩
    · exact ⟨_, rfl, serve_answers admitted
        ((if_neg (by simp [within])).trans (if_neg (by simp [ordered]))) rfl rfl⟩
  · exact ⟨_, rfl, serve_refuses admitted (if_pos zero)⟩
  · refine ⟨_, rfl, serve_answers admitted ((if_neg (by simp [r.sensorSetup_eq, z0, z1, z2])).trans ?_) rfl rfl⟩
    rw [r.sensorSetup_eq]
    rfl

end Sys2Proof.Machine
end

section
/-! PROOF. O47: the state over which each of the clock's and the epoch table's writes takes its evaluation (R51, R57, R58), and the
checks of CLOCK_SET, EPOCH_WRITE and EPOCH_ERASE. -/

namespace Sys2Proof.Machine

variable {s : State} {p : Port} {row : CatalogueRow} {r : Request}

/-! ### What each write leaves for the evaluation -/

/-- CLOCK_SET takes its evaluation over the loaded time, a flag that was clear being reported under that time (R51, R52). -/
theorem State.setClock_evaluated (s : State) (time : CivilTime) :
    Evaluated
      { s with
        clock := { s.clock with time, prescaler := 0, valid := true }
        recorder :=
          if s.clock.valid then s.recorder
          else
            { s.recorder with conditions := { s.recorder.conditions with clockInvalid := false } }.append
              (deviceRecord (.civil time) .clockInvalid .cleared 0) }
      (s.setClock time) := by
  unfold State.setClock
  cases s.clock.valid <;> exact State.evaluate_evaluated _

/-- A stored entry passes parity with its marker clear when the evaluation comes to it (R57, R58). -/
theorem State.storeEpoch_evaluated (s : State) (i : Fin 24) (f : EpochFields) :
    Evaluated { s with clock := { s.clock with epochs := s.clock.epochs.set i ⟨f, f.parity, false⟩ } } (s.storeEpoch i f) :=
  State.evaluate_evaluated _

/-- An admitted request whose rule ends with an evaluation answers OK, and its own effect is that evaluation. -/
theorem serve_evaluates {body : Request → State → State × Response} {m u : State} (h : Admitted s p row r)
    (own : body r s = (u, bare .ok)) (ports : u.ports = s.ports) (store : u.store = s.store) (evaluated : Evaluated m u) :
    Answered s (s.serve p row body) p ⟨.ok, []⟩ ∧ Evaluated m (ownEffect s (s.serve p row body)) := by
  have ⟨answered, left⟩ := serve_answers h own ports (by rw [store])
  exact ⟨answered, left ▸ evaluated⟩

/-- An admitted request whose rule stores an entry answers OK over the evaluation of the table with that entry (R57, R58). -/
theorem serve_storeEpoch {body : Request → State → State × Response} {i : Fin 24} {f : EpochFields} (h : Admitted s p row r)
    (own : body r s = (s.storeEpoch i f, bare .ok)) :
    Answered s (s.serve p row body) p ⟨.ok, []⟩ ∧
      Evaluated { s with clock := { s.clock with epochs := s.clock.epochs.set i ⟨f, f.parity, false⟩ } }
        (ownEffect s (s.serve p row body)) :=
  serve_evaluates h own (s.storeEpoch_ports i f) (s.storeEpoch_store i f) (s.storeEpoch_evaluated i f)

/-- What EPOCH_WRITE stores in its entry: the fields of the request in use, clamped (R57). -/
theorem clampEpoch_epochFields (r : Request) :
    clampEpoch r.epochFields =
      { inUse := true, months := BitVec.ofNat 12 (r.u2 1), weekdays := BitVec.ofNat 7 (r.u1 3), start := r.u2 4
        commercial := min 12000 (r.u2 6), authority := min 12000 (r.u2 8), fallback := min 120000 (r.u3 10)
        dark := decide (r.u1 13 ≠ 0) } := by
  rw [← Request.flag_eq]
  rfl

/-! ### The statement -/

/-- Settles O47: each refusal and each stored value is the branch of the request's rule that the checks choose, and what is stored
is followed by an evaluation. -/
theorem clockAndEpochRequestsStoreAndEvaluate : Obligations.ClockAndEpochRequestsStoreAndEvaluate := by
  refine ⟨fun s p r h n d => ⟨_, rfl, serve_refuses_denied h n d⟩,
    fun s p r h n d => ⟨_, rfl, serve_refuses_denied h n d⟩,
    fun s p r h n d => ⟨_, rfl, serve_refuses_denied h n d⟩,
    fun s p r => ⟨fun admitted => ?clock,
      fun admitted => ⟨fun out => ?refused, fun i index months weekdays start => ?written⟩,
      fun admitted => ⟨fun out => ?noEntry, fun i index => ?erased⟩⟩⟩
  case clock =>
    intro time
    have read : r.civilTime = time := rfl
    refine ⟨fun invalid => ?_, fun valid failed => ?_, fun valid works => ?_⟩
    · exact ⟨_, rfl, serve_refuses admitted (if_pos (by simp [read, invalid]))⟩
    · exact ⟨_, rfl, serve_refuses admitted ((if_neg (by simp [read, valid])).trans (if_pos failed))⟩
    · exact ⟨_, _, rfl, and_assoc.1 ⟨serve_evaluates admitted
        ((if_neg (by simp [read, valid])).trans (if_neg (by simp [works])))
        (s.setClock_ports time) (s.setClock_store time) (s.setClock_evaluated time), rfl⟩⟩
  case refused =>
    refine ⟨_, rfl, serve_refuses admitted ?_⟩
    rcases Nat.lt_or_ge (r.u1 0) 24 with index | beyond
    · simp only [Request.entry_some (j := ⟨r.u1 0, index⟩) rfl]
      exact if_pos (out.resolve_left (Nat.not_le.2 index))
    · simp only [Request.entry_none beyond]
  case written =>
    refine ⟨_, rfl, serve_storeEpoch admitted ?_⟩
    simp only [Request.entry_some index, clampEpoch_epochFields]
    exact if_neg (not_or.2 ⟨months, not_or.2 ⟨weekdays, Nat.not_le.2 start⟩⟩)
  case noEntry =>
    exact ⟨_, rfl, serve_refuses admitted (by simp only [Request.entry_none out])⟩
  case erased =>
    exact ⟨_, rfl, serve_storeEpoch admitted (by simp only [Request.entry_some index])⟩

end Sys2Proof.Machine
end

section
/-! PROOF. O6, O51 and O52: the ways in which a command can leave the Override Stack, said once for all commands (R73), and what
the three requests that write the stack do to it (R67 to R69). -/

namespace Sys2Proof.Machine

variable {s t : State} {c : Instr} {p : Port} {row : CatalogueRow} {r : Request} {stack l : List Override} {x e : Override}
  {id : Nat}

/-! ### Taking an entry away (R67, R69) -/

theorem withoutId_sublist (stack : List Override) (id : Nat) : (withoutId stack id).Sublist stack := List.filter_sublist

theorem withoutId_length_lt (h : x ∈ stack) : (withoutId stack x.id).length < stack.length :=
  List.length_filter_lt_length_iff_exists.2 ⟨x, h, by simp⟩

theorem not_mem_ids_withoutId (stack : List Override) (id : Nat) : id ∉ (withoutId stack id).map Override.id := by
  simp [withoutId]

theorem any_id_iff : (stack.any fun x => x.id == id) = true ↔ id ∈ stack.map Override.id := by simp

/-! ### The candidate for eviction (R68) -/

/-- The newest entry is judged against the candidate among the older ones. -/
theorem evictionCandidate_concat (stack : List Override) (e : Override) :
    evictionCandidate (stack ++ [e]) =
      some ((evictionCandidate stack).elim e fun b => if e.priority < b.priority then e else b) := by
  simp only [evictionCandidate, List.foldl_append, List.foldl_cons, List.foldl_nil]
  split
  next none_ => rw [none_]; rfl
  next b best => rw [best, Option.elim_some, apply_ite some]

theorem evictionCandidate_mem (h : evictionCandidate stack = some x) : x ∈ stack := by
  induction stack using List.reverseRecOn with
  | nil => cases h
  | append_singleton older e ih =>
    rw [evictionCandidate_concat] at h
    cases best : evictionCandidate older with
    | none =>
      rw [best] at h
      cases h
      simp
    | some b =>
      rw [best, Option.elim_some, Option.some.injEq] at h
      split at h
      · subst h; simp
      · exact List.mem_append_left _ (ih (best.trans (congrArg some h)))

/-- The candidate is the entry with every older entry above its priority and no newer one below it. -/
theorem evictionCandidate_eq {older newer : List Override} (above : ∀ y ∈ older, x.priority < y.priority)
    (notBelow : ∀ y ∈ newer, x.priority ≤ y.priority) : evictionCandidate (older ++ x :: newer) = some x := by
  induction newer using List.reverseRecOn with
  | nil =>
    rw [evictionCandidate_concat]
    cases best : evictionCandidate older with
    | none => rfl
    | some b => simp [above b (evictionCandidate_mem best)]
  | append_singleton newer y ih =>
    simp only [List.mem_append, List.mem_singleton, or_imp, forall_and, forall_eq] at notBelow
    obtain ⟨rest, last⟩ := notBelow
    rw [← List.cons_append, ← List.append_assoc, evictionCandidate_concat, ih rest]
    simp [Nat.not_lt.2 last]

/-! ### What a push does (R67, R68) -/

/-- An entry with the id of the new one is replaced. -/
theorem pushOverride_of_mem (held : e.id ∈ stack.map Override.id) :
    pushOverride stack e = some (withoutId stack e.id ++ [e], true, 0) := if_pos (any_id_iff.2 held)

/-- A new id takes a free place. -/
theorem pushOverride_of_room (fresh : e.id ∉ stack.map Override.id) (room : stack.length < 8) :
    pushOverride stack e = some (stack ++ [e], false, 0) :=
  (if_neg (mt any_id_iff.1 fresh)).trans (if_pos room)

/-- On a full stack the candidate makes place for a higher priority. -/
theorem pushOverride_of_full (fresh : e.id ∉ stack.map Override.id) (full : 8 ≤ stack.length) :
    pushOverride stack e = (evictionCandidate stack).bind fun x =>
      if x.priority < e.priority then some (withoutId stack x.id ++ [e], false, x.id) else none := by
  refine (if_neg (mt any_id_iff.1 fresh)).trans ((if_neg (Nat.not_lt.2 full)).trans ?_)
  cases evictionCandidate stack <;> rfl

/-- A push that is stored puts the new entry over at most seven entries of the stack, none of them with its id. -/
theorem pushOverride_some {replaced : Bool} {evicted : Nat} (most : stack.length ≤ 8)
    (h : pushOverride stack e = some (l, replaced, evicted)) :
    ∃ stay, l = stay ++ [e] ∧ stay.Sublist stack ∧ stay.length ≤ 7 ∧ e.id ∉ stay.map Override.id := by
  by_cases held : e.id ∈ stack.map Override.id
  · rw [pushOverride_of_mem held] at h
    cases h
    obtain ⟨x, mem, same⟩ := List.mem_map.1 held
    have fewer := withoutId_length_lt mem
    rw [same] at fewer
    exact ⟨_, rfl, withoutId_sublist _ _, by omega, not_mem_ids_withoutId _ _⟩
  rcases Nat.lt_or_ge stack.length 8 with room | full
  · rw [pushOverride_of_room held room] at h
    cases h
    exact ⟨_, rfl, .refl _, by omega, held⟩
  rw [pushOverride_of_full held full] at h
  obtain ⟨x, candidate, h⟩ := Option.bind_eq_some_iff.1 h
  obtain ⟨-, h⟩ := Option.ite_none_right_eq_some.1 h
  cases h
  have fewer := withoutId_length_lt (evictionCandidate_mem candidate)
  exact ⟨_, rfl, withoutId_sublist _ _, by omega, fun mem => held (((withoutId_sublist _ _).map _).subset mem)⟩

/-! ### What the shared operations leave of the stack -/

@[simp] theorem State.setAuthority_authority (s : State) (a : Authority) : (s.setAuthority a).authority = a := by
  rw [State.setAuthority_eq]

@[simp] theorem State.takeEblank_stack (s : State) (high : Bool) :
    (s.takeEblank high).authority.stack = s.authority.stack := by simp [State.takeEblank]

@[simp] theorem State.authorityHeard_stack (s : State) : s.authorityHeard.authority.stack = s.authority.stack := by
  rw [State.authorityHeard_eq]

@[simp] theorem State.take_stack (s : State) (p : Port) (r : Request) :
    (s.take p r).authority.stack = s.authority.stack := by
  cases p <;> simp [State.take]

@[simp] theorem State.endWrite_stack (s : State) (p : Port) : (s.endWrite p).authority.stack = s.authority.stack := by
  unfold State.endWrite
  split <;> simp

@[simp] theorem State.presenceRunOut_stack (s : State) : s.presenceRunOut.authority.stack = s.authority.stack := by
  unfold State.presenceRunOut
  split <;> rfl

@[simp] theorem State.expireOverrides_stack (s : State) :
    s.expireOverrides.authority.stack = s.authority.stack.filter fun x => decide (x.remaining ≠ .seconds 0) := by
  rw [State.expireOverrides_eq]

@[simp] theorem Authority.withKill_stack (a : Authority) (k : KillSetup) : (a.withKill k).stack = a.stack := rfl

@[simp] theorem State.loadPresence_stack (s : State) : s.loadPresence.authority.stack = s.authority.stack := rfl

@[simp] theorem State.setGrants_authority (s : State) (g : GrantMap) : (s.setGrants g).1.authority = s.authority := by
  unfold State.setGrants
  dsimp only
  split <;> split <;> rfl

/-- An uptime second counts every entry down and takes those that come to 0 away (R71). -/
@[simp] theorem State.authoritySecond_stack (s : State) :
    s.authoritySecond.authority.stack =
      (s.authority.stack.map fun e => { e with remaining := e.remaining.countDown }).filter
        fun x => decide (x.remaining ≠ .seconds 0) := by
  unfold State.authoritySecond
  dsimp only
  split <;> simp

/-! ### The ways in which a command can leave the stack (R73) -/

/-- What every operation but a push keeps of each entry that stays: its id and its mask. -/
def Override.key (e : Override) : Nat × ZoneMask := (e.id, e.mask)

/-- The ways in which a command can leave the Override Stack. -/
inductive StackChange (stack : List Override) : Instr → List Override → Prop
  /-- The entries that stay keep their order, their ids and their masks. -/
  | fewer (c : Instr) {l : List Override} (keys : (l.map Override.key).Sublist (stack.map Override.key)) :
      StackChange stack c l
  /-- R67, R68: a push puts its entry over at most seven entries that stay, none of them with its id. -/
  | pushed (p : Port) (e : Override) {stay : List Override} (sub : stay.Sublist stack) (room : stay.length ≤ 7)
      (fresh : e.id ∉ stay.map Override.id) (id : e.id ≠ 0) (mask : e.mask ≠ 0) :
      StackChange stack (.ovrPush p) (stay ++ [e])

theorem StackChange.of_sublist (h : l.Sublist stack) : StackChange stack c l := .fewer c (h.map _)

theorem StackChange.of_eq (h : l = stack) : StackChange stack c l := .of_sublist (h ▸ .refl _)

/-- A service changes the stack in a way of the command if its rule does. -/
theorem StackChange.serve {body : Request → State → State × Response}
    (own : ∀ r, StackChange s.authority.stack c (body r s).1.authority.stack) :
    StackChange s.authority.stack c (s.serve p row body).authority.stack :=
  serve_keeps (P := fun u => StackChange s.authority.stack c u.authority.stack) (fun _ _ kept => kept) (.of_eq rfl) own

theorem map_id_eq_map_key (l : List Override) : l.map Override.id = (l.map Override.key).map Prod.fst := by
  rw [List.map_map]
  rfl

/-- Every way in which a command can leave the stack keeps its law (R73). -/
theorem StackChange.law (h : StackChange stack c l)
    (law : stack.length ≤ 8 ∧ (stack.map Override.id).Nodup ∧ ∀ e ∈ stack, e.mask ≠ 0) :
    l.length ≤ 8 ∧ (l.map Override.id).Nodup ∧ ∀ e ∈ l, e.mask ≠ 0 := by
  obtain ⟨most, nodup, masks⟩ := law
  cases h with
  | fewer _ keys =>
    refine ⟨?_, ?_, fun e mem => ?_⟩
    · simpa using keys.length_le.trans (by simpa using most)
    · rw [map_id_eq_map_key] at nodup ⊢
      exact nodup.sublist (keys.map _)
    · obtain ⟨x, held, same⟩ := List.mem_map.1 (keys.subset (List.mem_map_of_mem mem))
      rw [← show x.mask = e.mask from congrArg Prod.snd same]
      exact masks x held
  | pushed p e sub room fresh id mask =>
    refine ⟨by simp; omega, ?_, fun y mem => ?_⟩
    · rw [List.map_append, List.nodup_append_comm]
      exact List.nodup_cons.2 ⟨fresh, nodup.sublist (sub.map _)⟩
    · rcases List.mem_append.1 mem with stays | new
      · exact masks y (sub.subset stays)
      · rw [List.mem_singleton.1 new]; exact mask

/-- Either no id came in, those that stay keeping their order, or a push put its entry over what stays (R73). -/
theorem StackChange.fewer_or_pushed (h : StackChange stack c l) :
    (l.map Override.id).Sublist (stack.map Override.id) ∨
      ∃ p e stay, c = .ovrPush p ∧ l = stay ++ [e] ∧ stay.Sublist stack ∧ stay.length ≤ 7 ∧
        e.id ∉ stay.map Override.id ∧ e.id ≠ 0 ∧ e.mask ≠ 0 := by
  cases h with
  | fewer _ keys =>
    rw [map_id_eq_map_key, map_id_eq_map_key]
    exact .inl (keys.map _)
  | pushed p e sub room fresh id mask => exact .inr ⟨p, e, _, rfl, rfl, sub, room, fresh, id, mask⟩

/-- The end of a main reset empties the stack (R73, R165). -/
theorem mainResetEnd_stack {a o : Fin 4} (h : exec (.mainResetEnd a o) s = .next t) :
    t.authority.stack =
      if s.supply.inReset && !s.supply.supplyLow && !s.supply.pinLow then [] else s.authority.stack := by
  cases h
  split
  · cases s.supply.retentionLost <;> simp [State.reportLoss, State.resetMain, authorityAfterReset]
  · rfl

/-- Entries that leave at an uptime second leave the others with their ids and masks (R71). -/
theorem countedDown_keys (stack : List Override) (q : Override → Bool) :
    ((((stack.map fun e => { e with remaining := e.remaining.countDown }).filter q)).map Override.key).Sublist
      (stack.map Override.key) := by
  have counted : (stack.map fun e => { e with remaining := e.remaining.countDown }).map Override.key =
      stack.map Override.key := by rw [List.map_map]; rfl
  rw [← counted]
  exact List.filter_sublist.map _

/-- What every command can do to the stack: six commands reach it. -/
theorem exec_stack (most : s.authority.stack.length ≤ 8) (h : exec c s = .next t) :
    StackChange s.authority.stack c t.authority.stack := by
  cases c with
  | mainResetEnd a o =>
    rw [mainResetEnd_stack h]
    split
    · exact .of_sublist (List.nil_sublist _)
    · exact .of_eq rfl
  | uptimeSecond mv first =>
    cases h
    split
    · refine .fewer _ ?_
      split <;> simpa using countedDown_keys _ _
    · exact .of_eq rfl
  | overrideExpired =>
    cases h
    split
    · rw [State.expireOverrides_stack]; exact .of_sublist List.filter_sublist
    · exact .of_eq rfl
  | ovrPush p =>
    cases h
    refine .serve fun r => ?_
    dsimp only
    split
    next => exact .of_eq rfl
    next kind _ =>
      split
      next => exact .of_eq rfl
      next ok =>
        simp only [not_or] at ok
        obtain ⟨id, mask, -⟩ := ok
        split
        next => exact .of_eq rfl
        next l replaced evicted push =>
          obtain ⟨stay, rfl, sub, room, fresh⟩ := pushOverride_some most push
          exact .pushed p _ sub room fresh id mask
  | ovrRemove p =>
    cases h
    refine .serve fun r => ?_
    dsimp only
    split
    · exact .of_eq rfl
    · split
      · exact .of_sublist (withoutId_sublist _ _)
      · exact .of_eq rfl
  | ovrClear p =>
    cases h
    exact .serve fun r => .of_sublist (List.nil_sublist _)
  -- the requests that only read
  | status p | clockRead p | epochRead p | curveRead p | sensorRead p | zoneRead p | gainRead p | levelRead p | ovrList p
  | authRead p | grantRead p | faultRead p => cases h; exact .serve fun r => .of_eq rfl
  -- the other requests with a rule of their own
  | clockSet p | epochWrite p | epochErase p | curveWrite p | sensorSetup p | zoneSetup p | gainWrite p | zoneMode p
  | killSetup p | killRelease p | authSetup p | grantSet p | faultSetup p | zoneRearm p | journalRead p | attnRead p
  | attnMask p | driveSetup p =>
    cases h
    refine .serve fun r => .of_eq ?_
    repeat' ((try dsimp only); split)
    all_goals simp
  -- the events of the other blocks, the link's and the resets' beginnings
  | resolveExpiry | gateCompletion e0 e1 e2 | secondRollover | timebaseFailure p | timebaseFirstEdge
  | backupStorageDisturbance i contents | presenceTimeout | eblankActiveEdge | eblankInactiveEdge
  | killStartUpTake high | periodEnd z | countClockSwitch | fsyncLevelTaken high | syncEvent high | syncWatchExpiry
  | samplePoint z pt current | conversionCompletion code | writeAddress p addr | dataByte p b | requestTaken w
  | responseRead p addr | unknownCode p | deviceReset p | brownOut | mainSupplyRise | resetNAssert | resetNRelease
  | retentionLoss =>
    cases h
    refine .of_eq ?_
    repeat' ((try dsimp only); split)
    all_goals simp

/-! ### The stack's law -/

/-- Settles O6: each way in which a command can leave the stack keeps the law, and the one in which an id can come in is a push. -/
theorem overrideStackStaysWellFormed : Obligations.OverrideStackStaysWellFormed := by
  refine ⟨fun s t law h => ?_, fun s t a o under supply pin h => ?_, fun c s t law h => ?_⟩
  · rcases step_cases h with rfl | ⟨c, rest, -, run⟩
    · exact law
    · exact (exec_stack (s := s.withPending rest) law.1 run).law law
  · rw [mainResetEnd_stack h, if_pos (by simp [under, supply, pin])]
  · exact (exec_stack law.1 h).fewer_or_pushed

/-! ### The requests (R67 to R69) -/

/-- The entry that OVR_PUSH carries (R66, R67). -/
def Request.pushed (r : Request) (kind : OverrideKind) : Override :=
  { id := r.u1 0, kind, mask := BitVec.ofNat 16 (r.u2 2), level := min 12000 (r.u2 4), priority := r.u1 6
    remaining := if r.u2 7 = 0 then .never else .seconds (r.u2 7) }

/-- An argument of OVR_PUSH outside its list, range or rule answers RANGE with the stack as it is (R67). -/
theorem ovrPush_range (h : Admitted s p rowOvrPush r)
    (out : r.u1 0 = 0 ∨ r.u1 1 = 0 ∨ 4 ≤ r.u1 1 ∨ (BitVec.ofNat 16 (r.u2 2) : ZoneMask) = 0 ∨ 4 ≤ r.u1 6) :
    ∃ t, exec (.ovrPush p) s = .next t ∧
      Answered s t p ⟨.range, [0, 0, BitVec.ofNat 8 s.authority.stack.length]⟩ ∧ ownEffect s t = s := by
  refine ⟨_, rfl, serve_answers h ?_ rfl rfl⟩
  cases code : OverrideKind.ofCode (r.u1 1) with
  | none => rfl
  | some kind =>
    refine if_pos ?_
    have inList : ¬(r.u1 1 = 0 ∨ 4 ≤ r.u1 1) := fun out => by simp [OverrideKind.ofCode_none out] at code
    rcases out with id | zero | above | mask | priority
    · exact .inl id
    · exact absurd (.inl zero) inList
    · exact absurd (.inr above) inList
    · exact .inr (.inl mask)
    · exact .inr (.inr priority)

/-- An OVR_PUSH within its lists and ranges does what the push of its entry does, or answers FULL (R67, R68). -/
theorem ovrPush_pushes {kind : OverrideKind} (h : Admitted s p rowOvrPush r) (code : r.u1 1 = kind.code) (id : r.u1 0 ≠ 0)
    (mask : (BitVec.ofNat 16 (r.u2 2) : ZoneMask) ≠ 0) (priority : r.u1 6 < 4) :
    (∀ l replaced evicted held, pushOverride s.authority.stack (r.pushed kind) = some (l, replaced, evicted) →
        l.length = held → ∃ t, exec (.ovrPush p) s = .next t ∧ Answered s t p ⟨.ok, pushData replaced evicted held⟩ ∧
          ownEffect s t = { s with authority := { s.authority with stack := l } }) ∧
      ∀ held, pushOverride s.authority.stack (r.pushed kind) = none → s.authority.stack.length = held →
        ∃ t, exec (.ovrPush p) s = .next t ∧ Answered s t p ⟨.full, pushData false 0 held⟩ ∧ ownEffect s t = s := by
  have passed : ¬(r.u1 0 = 0 ∨ r.mask 2 = 0 ∨ 3 < r.u1 6) := not_or.2 ⟨id, not_or.2 ⟨mask, by omega⟩⟩
  have entry : r.pushed kind =
      { id := r.u1 0, kind, mask := r.mask 2, level := clamp 0 Config.levelMax (r.u2 4), priority := r.u1 6
        remaining := Lifetime.ofWire (r.u2 7) } := rfl
  rw [entry]
  constructor
  · rintro l replaced evicted _ push rfl
    refine ⟨_, rfl, serve_answers h ?_ rfl rfl⟩
    simp only [code, OverrideKind.ofCode_code]
    rw [if_neg passed, push]
    rfl
  · rintro _ push rfl
    refine ⟨_, rfl, serve_answers h ?_ rfl rfl⟩
    simp only [code, OverrideKind.ofCode_code]
    rw [if_neg passed, push]

/-- With no two entries of one id, what is left without an entry of the stack. -/
theorem withoutId_eq {older newer : List Override} (nodup : (stack.map Override.id).Nodup)
    (split : stack = older ++ x :: newer) : withoutId stack x.id = older ++ newer := by
  subst split
  exact withoutId_append_cons nodup

theorem not_mem_ids (h : ∀ x ∈ stack, x.id ≠ id) : id ∉ stack.map Override.id := by
  simpa using h

/-- Settles O51: each case of the request is a case of the push. -/
theorem overridePushReplacesAppendsOrEvicts : Obligations.OverridePushReplacesAppendsOrEvicts := by
  refine ⟨fun s p r h n d => ⟨_, rfl, serve_refuses_denied h n d⟩, fun s p r law admitted => ?_⟩
  obtain ⟨-, nodup, -⟩ := law
  refine ⟨ovrPush_range admitted, fun kind code id mask priority => ?_⟩
  obtain ⟨stores, full⟩ := ovrPush_pushes admitted code id mask priority
  refine ⟨fun older x newer split same => ?replaced, fun fresh room => ?appended,
    fun fresh eight older x newer split above notBelow => ?onFull⟩
  case replaced =>
    have push := pushOverride_of_mem (stack := s.authority.stack) (e := r.pushed kind)
      (List.mem_map.2 ⟨x, by simp [split], same⟩)
    rw [← show x.id = (r.pushed kind).id from same, withoutId_eq nodup split] at push
    exact stores _ _ _ _ push (by simp [split])
  case appended => exact stores _ _ _ _ (pushOverride_of_room (not_mem_ids fresh) room) (by simp)
  case onFull =>
    have candidate : evictionCandidate s.authority.stack = some x := split ▸ evictionCandidate_eq above notBelow
    have push := pushOverride_of_full (e := r.pushed kind) (not_mem_ids fresh) (Nat.le_of_eq eight.symm)
    rw [candidate, Option.bind_some, withoutId_eq nodup split] at push
    exact ⟨fun higher => stores _ _ _ _ (push.trans (if_pos higher)) (by simpa [split] using eight),
      fun noHigher => full _ (push.trans (if_neg (Nat.not_lt.2 noHigher))) eight⟩

/-- Settles O52: an entry of the id is alone in having it, so that its removal leaves the others. -/
theorem overrideRemoveAndClearTakeEntriesAway : Obligations.OverrideRemoveAndClearTakeEntriesAway := by
  refine ⟨fun s p r h n d => ⟨_, rfl, serve_refuses_denied h n d⟩,
    fun s p r h n d => ⟨_, rfl, serve_refuses_denied h n d⟩, fun s p r law => ?_⟩
  obtain ⟨-, nodup, -⟩ := law
  refine ⟨fun admitted => ⟨fun zero => ?noId, fun id absent => ?absent, fun older x newer id split same => ?removed⟩,
    fun admitted => ⟨_, rfl, serve_answers admitted rfl rfl rfl⟩⟩
  case noId => exact ⟨_, rfl, serve_answers admitted (if_pos zero) rfl rfl⟩
  case absent =>
    exact ⟨_, rfl, serve_answers admitted
      ((if_neg id).trans (if_neg (mt any_id_iff.1 (not_mem_ids absent)))) rfl rfl⟩
  case removed =>
    have held : r.u1 0 ∈ s.authority.stack.map Override.id := List.mem_map.2 ⟨x, by simp [split], same⟩
    have left : withoutId s.authority.stack (r.u1 0) = older ++ newer := same ▸ withoutId_eq nodup split
    have length : s.authority.stack.length - 1 = (older ++ newer).length := by simp [split]
    rw [length, ← left]
    exact ⟨_, rfl, serve_answers admitted ((if_neg id).trans (if_pos (any_id_iff.2 held))) rfl rfl⟩

end Sys2Proof.Machine
end

section
/-! PROOF. O53 and O54: the kill that KILL_SETUP and KILL_RELEASE form afresh (R78 to R80), and the records that AUTH_SETUP and
GRANT_SET store whole (R83, R137). -/

namespace Sys2Proof.Machine

variable {s : State} {p : Port} {r : Request}

/-! ### The kill under a new setup (R77, R78, R80) -/

/-- The sampled EBLANK level is active as read under a polarity; until it is taken it reads inactive (R77, R81). -/
def Authority.activeAs (a : Authority) (k : Polarity) : Bool :=
  match a.eblank with
  | some high => decide (high = true ↔ k = .activeHigh)
  | none => false

theorem Authority.eblankActive_eq (a : Authority) : a.eblankActive = a.activeAs a.kill.polarity := by
  unfold Authority.eblankActive Authority.activeAs
  cases a.eblank with
  | none => rfl
  | some high => cases high <;> cases a.kill.polarity <;> rfl

/-- The kill follows the input in LEVEL mode and the latch in LATCH mode (R78). -/
theorem Authority.killInForce_eq (a : Authority) :
    a.killInForce = if a.kill.mode = .level then a.activeAs a.kill.polarity else a.latch := by
  rw [← Authority.eblankActive_eq]
  unfold Authority.killInForce
  cases a.kill.mode <;> rfl

/-- The latch that a new kill setup leaves: a change of mode forms it from the level, a change of polarity alone can set it
(R80). -/
def Authority.latchUnder (a : Authority) (k : KillSetup) : Bool :=
  if k.mode ≠ a.kill.mode then decide (k.mode = .latch) && a.activeAs k.polarity
  else a.latch || (decide (k.mode = .latch ∧ k.polarity ≠ a.kill.polarity) && !a.activeAs a.kill.polarity &&
    a.activeAs k.polarity)

theorem Authority.withKill_eq (a : Authority) (k : KillSetup) :
    a.withKill k = { a with kill := k, latch := a.latchUnder k } := by
  have before := a.eblankActive_eq
  have after : ({ a with kill := k } : Authority).eblankActive = a.activeAs k.polarity := Authority.eblankActive_eq _
  simp only [Authority.withKill, before, after, Authority.latchUnder]
  by_cases mode : k.mode = a.kill.mode
  · by_cases polarity : k.polarity = a.kill.polarity <;> simp [mode, polarity, Bool.and_assoc]
  · by_cases latch : k.mode = .latch
    · rw [latch] at mode ⊢
      cases a.activeAs k.polarity <;> simp [mode]
    · simp [mode, latch]

/-- The kill comes to its end: KILL CLEARED under its mask, and the condition is cleared (R78). -/
theorem State.setAuthority_ends {a : Authority} (before : s.authority.killInForce = true) (after : a.killInForce = false) :
    s.setAuthority a = (s.withAuthority a).killEnds s.authority.kill.mask := by
  simp only [State.setAuthority, before, after]

/-- KILL_SETUP refuses a code outside its list and an empty mask (R80). -/
theorem killSetup_refuses (h : Admitted s p rowKillSetup r)
    (out : 2 ≤ r.u1 0 ∨ 2 ≤ r.u1 1 ∨ (BitVec.ofNat 16 (r.u2 2) : ZoneMask) = 0) :
    ∃ t, exec (.killSetup p) s = .next t ∧ Refused s t p .range := by
  refine ⟨_, rfl, serve_refuses h ?_⟩
  cases mode : KillMode.ofCode (r.u1 0) with
  | none => rfl
  | some m =>
    cases polarity : Polarity.ofKillCode (r.u1 1) with
    | none => rfl
    | some k =>
      refine if_pos ((out.resolve_left fun above => ?_).resolve_left fun above => ?_)
      · simp [KillMode.ofCode_none above] at mode
      · simp [Polarity.ofKillCode_none above] at polarity

/-- KILL_SETUP within its lists forms the kill afresh under the new setup (R80). -/
theorem killSetup_forms {mode : KillMode} {polarity : Polarity} (h : Admitted s p rowKillSetup r)
    (modeCode : r.u1 0 = mode.code) (polarityCode : r.u1 1 = polarity.killCode)
    (mask : (BitVec.ofNat 16 (r.u2 2) : ZoneMask) ≠ 0) :
    ∃ t, exec (.killSetup p) s = .next t ∧ Answered s t p ⟨.ok, []⟩ ∧
      ownEffect s t = s.setAuthority (s.authority.withKill ⟨mode, polarity, BitVec.ofNat 16 (r.u2 2)⟩) := by
  refine ⟨_, rfl, serve_answers h ?_ (State.setAuthority_ports ..) (by rw [State.setAuthority_store])⟩
  simp only [modeCode, polarityCode, KillMode.ofCode_code, Polarity.ofKillCode_killCode]
  exact if_neg mask

/-- KILL_RELEASE clears a latch that the input no longer holds, and the kill is formed afresh (R79). -/
theorem killRelease_releases (h : Admitted s p rowKillRelease r) (latch : s.authority.latch = true)
    (inactive : s.authority.eblankActive = false) :
    ∃ t, exec (.killRelease p) s = .next t ∧ Answered s t p ⟨.ok, []⟩ ∧
      ownEffect s t = s.setAuthority { s.authority with latch := false } :=
  ⟨_, rfl, serve_answers h ((if_neg (by simp [latch])).trans (if_neg (by simp [inactive])))
    (State.setAuthority_ports ..) (by rw [State.setAuthority_store])⟩

/-- Settles O53: KILL_SETUP is the kill formed afresh under the new setup, and a release in LATCH mode ends the kill. -/
theorem killRequestsFormTheKillAfresh : Obligations.KillRequestsFormTheKillAfresh := by
  refine ⟨fun s p r h n d => ⟨_, rfl, serve_refuses_denied h n d⟩,
    fun s p r h n d => ⟨_, rfl, serve_refuses_denied h n d⟩,
    fun s p r => ⟨fun admitted => ⟨killSetup_refuses admitted, fun mode polarity modeCode polarityCode mask => ?setup⟩,
      fun admitted => ⟨fun unlatched => ?unlatched, fun latch active => ?active, fun latch inactive mode => ?released⟩⟩⟩
  case setup =>
    obtain ⟨t, run, answered, left⟩ := killSetup_forms admitted modeCode polarityCode mask
    refine ⟨t, run, answered, left.trans ((State.setAuthority_eq ..).trans ?_)⟩
    rw [Authority.killInForce_eq, Authority.killInForce_eq, Authority.withKill_eq]
    rfl
  case unlatched => exact ⟨_, rfl, serve_answers admitted (if_pos (by simp [unlatched])) rfl rfl⟩
  case active => exact ⟨_, rfl, serve_refuses admitted ((if_neg (by simp [latch])).trans (if_pos active))⟩
  case released =>
    have before : s.authority.killInForce = true := by rw [Authority.killInForce_eq]; simp [mode, latch]
    have after : ({ s.authority with latch := false } : Authority).killInForce = false := by
      rw [Authority.killInForce_eq]; simp [mode]
    obtain ⟨t, run, answered, left⟩ := killRelease_releases admitted latch inactive
    exact ⟨t, run, answered, left.trans (State.setAuthority_ends before after)⟩

/-! ### The Authority settings record (R83) -/

/-- The settings that AUTH_SETUP stores: each field of the request clamped to its range (R83). -/
theorem Request.settings_clamped (r : Request) :
    r.settings.clamped =
      { failsafeCommercial := min 12000 (r.u2 0), failsafeAuthority := min 12000 (r.u2 2)
        window := if r.u2 4 = 0 then 0 else max 10 (min 3600 (r.u2 4))
        upAbs := max 1 (min 1000 (r.u2 6)), upRel := r.u1 8, downAbs := max 1 (min 1000 (r.u2 9)), downRel := r.u1 11
        knee := max (-40) (min 150 (r.s2 12)), cut := max (-35) (min 149 (r.s2 14)) } := by
  have byte (i : Nat) : clamp 0 255 (r.u1 i) = r.u1 i := by
    have := r.u1_lt i
    unfold clamp
    omega
  simp only [AuthSettings.clamped, Request.settings, byte]
  rfl

/-! ### The Grant Map (R137) -/

theorem Request.grants_none
    (out : 2 ≤ r.u1 0 ∨ 2 ≤ r.u1 1 ∨ 2 ≤ r.u1 2 ∨ 2 ≤ r.u1 3 ∨ 2 ≤ r.u1 4) : r.grants = none := by
  unfold Request.grants
  rcases out with h | h | h | h | h <;> simp [holderOfCode_none h]

theorem Request.grants_some {g : GrantMap} (h0 : r.u1 0 = holderCode g.curve) (h1 : r.u1 1 = holderCode g.zoneSetup)
    (h2 : r.u1 2 = holderCode g.faultSetup) (h3 : r.u1 3 = holderCode g.clock) (h4 : r.u1 4 = holderCode g.driveTiming) :
    r.grants = some g := by
  simp [Request.grants, h0, h1, h2, h3, h4]

/-- What a GRANT_SET leaves: the map replaced whole, the cause latched by a change, the staged setup withdrawn by a change of the
CURVE grant (R137). -/
theorem State.setGrants_eq (s : State) (g : GrantMap) :
    s.setGrants g =
      ({ s with
        store := { s.store with grants := g }
        attention := { s.attention with grant := s.attention.grant || decide (g ≠ s.store.grants) }
        ambient :=
          if g.curve ≠ s.store.grants.curve ∧ s.ambient.setupPending = true then
            { s.ambient with staged := s.ambient.working, setupPending := false }
          else s.ambient }, decide (g.curve ≠ s.store.grants.curve ∧ s.ambient.setupPending = true)) := by
  have told : (decide (g.curve ≠ s.store.grants.curve) && s.ambient.setupPending) =
      decide (g.curve ≠ s.store.grants.curve ∧ s.ambient.setupPending = true) := by
    rw [Bool.decide_and, Bool.decide_eq_true]
  unfold State.setGrants
  dsimp only
  rw [told]
  by_cases same : g = s.store.grants
  · subst same
    simp [State.withStore]
  · rw [if_neg same, decide_eq_true same, Bool.or_true]
    by_cases withdraws : g.curve ≠ s.store.grants.curve ∧ s.ambient.setupPending = true
    · rw [if_pos withdraws, decide_eq_true withdraws]
      rfl
    · rw [if_neg withdraws, decide_eq_false withdraws]
      rfl

/-- Settles O54: what passes the checks is stored as the clamped record, or as the map with the changes that it brings. -/
theorem authorityRecordsAreStoredWhole : Obligations.AuthorityRecordsAreStoredWhole := by
  refine ⟨fun s p r h n d => ⟨_, rfl, serve_refuses_denied h n d⟩,
    fun s p r h n d => ⟨_, rfl, serve_refuses_denied h n d⟩,
    fun s p r => ⟨fun admitted => ⟨fun low => ?low, fun above => ?stored⟩,
      fun admitted => ⟨fun out => ?out, fun g h0 h1 h2 h3 h4 => ?granted⟩⟩⟩
  case low =>
    refine ⟨_, rfl, serve_refuses admitted (if_pos ?_)⟩
    rw [r.settings_clamped]
    exact low
  case stored =>
    refine ⟨_, rfl, serve_answers admitted ((if_neg ?_).trans ?_) rfl rfl⟩
    · rw [r.settings_clamped]
      exact not_le.2 above
    · rw [r.settings_clamped]
      rfl
  case out => exact ⟨_, rfl, serve_refuses admitted (by rw [Request.grants_none out])⟩
  case granted =>
    refine ⟨_, rfl, serve_answers admitted ?_ rfl rfl⟩
    rw [Request.grants_some h0 h1 h2 h3 h4]
    dsimp only
    rw [State.setGrants_eq]
    simp only [h0, h1, h2, h3, h4, flagByte, decide_eq_true_eq]
    rfl

end Sys2Proof.Machine
end

section
/-! PROOF. O50: the gains and the operator modes that GAIN_WRITE and ZONE_MODE store in every zone of their mask (R7, R100). -/

namespace Sys2Proof.Machine

variable {s : State} {p : Port} {r : Request}

theorem OperatorMode.ofCode_none {n : Nat} (h : 2 ≤ n) : OperatorMode.ofCode n = none := by
  unfold OperatorMode.ofCode
  split
  · omega
  · omega
  · rfl

theorem OperatorMode.ofCode_some {n : Nat} (h : n < 2) : OperatorMode.ofCode n = some (if n = 1 then .on else .off) := by
  interval_cases n <;> rfl

theorem modeOf_ite (on : Prop) [Decidable on] : modeOf (if on then .on else .off) = if on then .pwm else .off := by
  split <;> rfl

/-- ZONE_MODE sets the operator mode of every zone of the mask, and stages the output mode of those installed (R100). -/
theorem State.setOperator_eq (s : State) (mask : ZoneMask) (m : OperatorMode) :
    s.setOperator mask m =
      { s with
        resolver := .ofFn fun z =>
          if mask.getLsbD z.val = true then { s.resolver.get z with operator := m } else s.resolver.get z
        drive :=
          { s.drive with
            zones := .ofFn fun z =>
              if mask.getLsbD z.val = true ∧ s.installed z = true then
                { s.drive.zones.get z with bufferedMode := modeOf m, swapPending := true }
              else s.drive.zones.get z } } := by
  have staged (z : Zone) : ((s.drive.zones.get z).record.installed && inMask mask z) = true ↔
      mask.getLsbD z.val = true ∧ s.installed z = true := by
    rw [Bool.and_eq_true, and_comm]
    rfl
  simp only [State.setOperator, ZoneBank.mapIdx, staged]
  rfl

/-- Settles O50: a request within its lists and ranges stores its value in the zones of the mask; each refusal is a check of its
rule. -/
theorem operatorWritesReachEveryZoneOfTheirMask : Obligations.OperatorWritesReachEveryZoneOfTheirMask := by
  refine ⟨fun s p r h n d => ⟨_, rfl, serve_refuses_denied h n d⟩,
    fun s p r h n d => ⟨_, rfl, serve_refuses_denied h n d⟩,
    fun s p r => ⟨fun admitted => ⟨fun empty => ?noGain, fun mask => ?gain⟩,
      fun admitted => ⟨fun out => ?noMode, fun mask code => ?mode⟩⟩⟩
  case noGain => exact ⟨_, rfl, serve_refuses admitted (if_pos empty)⟩
  case gain =>
    refine ⟨_, rfl, serve_answers admitted ((if_neg mask).trans ?_) rfl rfl⟩
    simp only [ZoneBank.mapIdx, clamp, Nat.zero_max]
    rfl
  case noMode =>
    refine ⟨_, rfl, serve_refuses admitted ?_⟩
    rcases out with empty | above
    · cases OperatorMode.ofCode (r.u1 2) with
      | none => rfl
      | some m => exact if_pos empty
    · rw [OperatorMode.ofCode_none above]
  case mode =>
    refine ⟨_, rfl, serve_answers admitted ?_ rfl rfl⟩
    rw [OperatorMode.ofCode_some code]
    refine (if_neg mask).trans ?_
    rw [State.setOperator_eq, modeOf_ite]
    rfl

end Sys2Proof.Machine
end

section
/-! PROOF. For O7 and O13: a zone as its outputs' rules see it, the ways in which the commands can change it, and that every command
changes every zone in these ways alone. -/

namespace Sys2Proof.Machine

/-! ### A zone as the rules of its outputs see it -/

/-- A zone: its channel, what the Resolver, the Monitor and the Fault Table hold for it, whether the kill is in force for it, and
whether a main reset is under way. -/
structure ZoneView where
  inReset : Bool
  killed : Bool
  channel : Channel
  resolver : ResolverZone
  monitor : MonitorZone
  entries : KindBank FaultEntry

/-- The zone in a state. -/
def State.zoneView (s : State) (z : Zone) : ZoneView :=
  { inReset := s.supply.inReset, killed := s.authority.killFor z, channel := s.drive.zones.get z
    resolver := s.resolver.get z, monitor := s.monitor.zones.get z, entries := s.recorder.table.get z }

/-- The zone is installed (R88). -/
abbrev ZoneView.installed (v : ZoneView) : Prop := v.channel.record.installed = true

/-- The ways in which a part of a command `c` can change zone `z`. -/
inductive ZoneMove (c : Instr) (z : Zone) (v : ZoneView) : ZoneView → Prop
  /-- R7, R100: gain and operator mode are stored, installed or not. -/
  | operator (gain : Nat) (m : OperatorMode) :
      ZoneMove c z v { v with resolver := { v.resolver with gain, operator := m } }
  /-- R114: thresholds and reactions are stored. -/
  | setup (a : FaultSetupArgs) : ZoneMove c z v { v with monitor := v.monitor.withSetup a }
  /-- R115: a new Q forms the counts afresh. -/
  | requalified (q : Nat) : ZoneMove c z v { v with entries := v.entries.map (FaultEntry.requalify q) }
  /-- R98: a change of the swap mode disarms. -/
  | disarmed : ZoneMove c z v { v with channel := { v.channel with armed := false } }
  /-- R91: a zone installed before and after, or neither, takes a record alone. -/
  | recorded (rec : ZoneRecord) (same : rec.installed = v.channel.record.installed) :
      ZoneMove c z v { v with channel := { v.channel with record := rec } }
  /-- R78, R99: the kill is formed afresh, an installed zone that it newly covers having its force hold set. -/
  | killed (k : Bool) (held : k = true → v.killed = true ∨ (v.installed → v.channel.hold = true)) :
      ZoneMove c z v { v with killed := k }
  /-- R99: the force hold of an installed zone is set. -/
  | held (on : v.installed) : ZoneMove c z v { v with channel := { v.channel with hold := true } }
  /-- R1, R21: an installed zone is resolved, its duty buffered. -/
  | resolved (on : v.installed) (r : ResolverZone) (full : r.duty ≤ 65535) :
      ZoneMove c z v
        { v with resolver := r, channel := { v.channel with dutyBuffer := r.duty, swapPending := true } }
  /-- R100: an operator mode is staged on an installed zone. -/
  | staged (on : v.installed) (m : OperatorMode) :
      ZoneMove c z v { v with channel := { v.channel with bufferedMode := modeOf m, swapPending := true } }
  /-- R96: a sync event arms an installed zone. -/
  | armed (on : v.installed) : ZoneMove c z v { v with channel := { v.channel with armed := true } }
  /-- R110, R116: the Fault Table entries of an installed zone move. -/
  | counted (on : v.installed) (es : KindBank FaultEntry) : ZoneMove c z v { v with entries := es }
  /-- R108: a conversion of an installed zone is stored. -/
  | measured (on : v.installed) (conv : Conversion) :
      ZoneMove c z v { v with monitor := { v.monitor with latest := some conv } }
  /-- R104, R105: the window of an installed zone that is not locked out moves. -/
  | sampling (on : v.installed) (free : v.monitor.lockout = false) (w : Window) :
      ZoneMove c z v { v with monitor := { v.monitor with window := w } }
  /-- R104: an IDLE window stays IDLE. -/
  | idling (w : Window) (idle : v.monitor.window = .idle → w = .idle) :
      ZoneMove c z v { v with monitor := { v.monitor with window := w } }
  /-- R113, R99, R101: an installed zone is locked out. -/
  | lockedOut (on : v.installed) :
      ZoneMove c z v
        { v with
          channel := { v.channel with hold := true, supplyEnable := false }
          monitor := { v.monitor with lockout := true, window := .idle } }
  /-- R116, R101: a rearm ends a lockout. -/
  | rearmed (on : v.installed) (run : v.inReset = false) :
      ZoneMove c z v
        { v with
          channel := { v.channel with supplyEnable := true }
          resolver := { v.resolver with fromZero := true }, monitor := { v.monitor with lockout := false } }
  /-- R92: a period of the zone ends; the forcing causes are those of R99. -/
  | periodEnd (autoSwaps : Bool) (own : c = .periodEnd z) :
      ZoneMove c z v { v with channel := v.channel.atPeriodEnd (v.killed || v.monitor.lockout) autoSwaps }
  /-- R89: a ZONE_SETUP installs the zone. -/
  | installed (rec : ZoneRecord) (m : OperatorMode) (off : v.channel.record.installed = false)
      (on : rec.installed = true) (run : v.inReset = false) :
      ZoneMove c z v { v with channel := v.channel.install rec m v.killed }
  /-- R90, R24, R117, R120: a ZONE_SETUP uninstalls the zone. -/
  | uninstalled (rec : ZoneRecord) (off : rec.installed = false) :
      ZoneMove c z v
        { v with
          channel := v.channel.uninstall rec
          resolver :=
            { v.resolver with present := 0, target := 0, ceiling := 0, reason := .none, duty := 0, fromZero := false }
          monitor := { v.monitor with window := .idle, lockout := false, latest := none }, entries := emptyEntries }
  /-- R165: a main reset begins. -/
  | resetBegun :
      ZoneMove c z v { v with inReset := true, channel := { v.channel with supplyEnable := false } }
  /-- R165: a main reset ends. -/
  | resetEnded (k : Bool) (own : ∃ a o, c = .mainResetEnd a o) :
      ZoneMove c z v
        { inReset := false, killed := k, channel := channelAfterReset z, resolver := resolverZoneAfterReset
          monitor := monitorZoneAfterReset, entries := emptyEntries }

/-- A command `c` changes zone `z` by moves one after another. -/
abbrev ZoneChange (c : Instr) (z : Zone) : ZoneView → ZoneView → Prop := Relation.ReflTransGen (ZoneMove c z)

/-- Every zone of `t` comes from that of `s` by moves of the command `c`. -/
def ZonesMove (c : Instr) (s t : State) : Prop := ∀ z, ZoneChange c z (s.zoneView z) (t.zoneView z)

variable {c : Instr} {s t u : State} {z y : Zone} {v w : ZoneView} {p : Port} {row : CatalogueRow}

/-- A move that is made only under a condition. -/
theorem ZoneChange.ite {q : Prop} [Decidable q] (h : q → ZoneMove c z v w) : ZoneChange c z v (if q then w else v) := by
  split
  next hq => exact .single (h hq)
  next => exact .refl

theorem ZonesMove.of_same (h : ∀ z, t.zoneView z = s.zoneView z) : ZonesMove c s t := fun z => h z ▸ .refl

theorem ZonesMove.refl : ZonesMove c s s := fun _ => .refl

theorem ZonesMove.trans (h : ZonesMove c s t) (h' : ZonesMove c t u) : ZonesMove c s u := fun z => (h z).trans (h' z)

/-- An operation that reaches one zone makes its moves there and leaves the others. -/
theorem ZonesMove.at (z : Zone) (w : ZoneView) (view : ∀ y, t.zoneView y = if y = z then w else s.zoneView y)
    (h : ZoneChange c z (s.zoneView z) w) : ZonesMove c s t := fun y => by
  rw [view y]
  by_cases hy : y = z
  · subst hy
    rw [if_pos rfl]
    exact h
  · rw [if_neg hy]

/-- A service moves the zones as its rule does, which it comes to only while the main domain runs (R142). -/
theorem ZonesMove.serve {body : Request → State → State × Response}
    (own : s.supply.inReset = false → ∀ r, ZonesMove c s (body r s).1) : ZonesMove c s (s.serve p row body) := by
  cases run : s.supply.inReset with
  | true => rw [serve_none fun r service => by simp [service.1] at run]; exact .refl
  | false => exact serve_keeps (P := ZonesMove c s) (fun _ _ moved => moved) .refl (own run)

/-! ### What leaves every zone as it is -/

/-- Appends leave the Fault Table (R127). -/
theorem Recorder.appendAll_table (r : Recorder) (xs : List JournalRecord) : (r.appendAll xs).table = r.table := by
  induction xs generalizing r with
  | nil => rfl
  | cons x xs ih => rw [Recorder.appendAll_cons, ih, Recorder.append_table]

/-- A zone is as before where none of the parts it stands in has changed. -/
theorem State.zoneView_congr (supply : t.supply.inReset = s.supply.inReset)
    (kill : t.authority.killFor z = s.authority.killFor z) (drive : t.drive.zones = s.drive.zones)
    (resolver : t.resolver = s.resolver) (monitor : t.monitor.zones = s.monitor.zones)
    (table : t.recorder.table = s.recorder.table) : t.zoneView z = s.zoneView z := by
  simp only [State.zoneView, supply, kill, drive, resolver, monitor, table]

section

variable (s : State) (z : Zone)

@[simp] theorem State.withStore_zoneView (x : TableStore) : (s.withStore x).zoneView z = s.zoneView z := rfl
@[simp] theorem State.withClock_zoneView (x : ClockUnit) : (s.withClock x).zoneView z = s.zoneView z := rfl
@[simp] theorem State.withAmbient_zoneView (x : Ambient) : (s.withAmbient x).zoneView z = s.zoneView z := rfl
@[simp] theorem State.withAttention_zoneView (x : Attention) : (s.withAttention x).zoneView z = s.zoneView z := rfl
@[simp] theorem State.complete_zoneView (p : Port) (r : Response) : (s.complete p r).zoneView z = s.zoneView z := rfl
@[simp] theorem State.modPort_zoneView (p : Port) (f : LinkPort → LinkPort) :
    (s.modPort p f).zoneView z = s.zoneView z := rfl
@[simp] theorem State.modConditions_zoneView (f : Conditions → Conditions) :
    (s.modConditions f).zoneView z = s.zoneView z := rfl
@[simp] theorem State.latchGrade_zoneView : s.latchGrade.zoneView z = s.zoneView z := rfl
@[simp] theorem State.withStack_zoneView (l : List Override) : (s.withStack l).zoneView z = s.zoneView z := rfl
@[simp] theorem State.markRead_zoneView (p : Port) :
    (s.withRecorder (s.recorder.markRead p)).zoneView z = s.zoneView z := rfl

@[simp] theorem State.withSupply_zoneView (x : Supply) (h : x.inReset = s.supply.inReset) :
    (s.withSupply x).zoneView z = s.zoneView z := State.zoneView_congr h rfl rfl rfl rfl rfl
@[simp] theorem State.withDrive_zoneView (x : Drive) (h : x.zones = s.drive.zones) :
    (s.withDrive x).zoneView z = s.zoneView z := State.zoneView_congr rfl rfl h rfl rfl rfl

/-- A record appended is none of a zone's state (R127). -/
@[simp] theorem State.report_zoneView (r : Report) : (s.report r).zoneView z = s.zoneView z :=
  State.zoneView_congr rfl rfl rfl rfl rfl (Recorder.append_table ..)

@[simp] theorem State.reportParity_zoneView : s.reportParity.zoneView z = s.zoneView z := by
  rw [State.reportParity_eq]
  exact State.zoneView_congr rfl rfl rfl rfl rfl (Recorder.appendAll_table ..)

@[simp] theorem State.evaluate_zoneView : s.evaluate.zoneView z = s.zoneView z := by
  simp only [State.evaluate]
  repeat' split
  all_goals simp

@[simp] theorem State.secondRollover_zoneView : s.secondRollover.zoneView z = s.zoneView z := by
  simp only [State.secondRollover]
  split <;> simp

@[simp] theorem State.setClock_zoneView (t : CivilTime) : (s.setClock t).zoneView z = s.zoneView z := by
  simp only [State.setClock]
  split <;> simp

@[simp] theorem State.storeEpoch_zoneView (i : Fin 24) (f : EpochFields) :
    (s.storeEpoch i f).zoneView z = s.zoneView z := by
  simp [State.storeEpoch]

@[simp] theorem State.authorityHeard_zoneView : s.authorityHeard.zoneView z = s.zoneView z := by
  simp only [State.authorityHeard]
  split
  · rfl
  · rfl
  · rw [State.report_zoneView]
    rfl

@[simp] theorem State.presenceRunOut_zoneView : s.presenceRunOut.zoneView z = s.zoneView z := by
  simp only [State.presenceRunOut]
  split
  · rw [State.report_zoneView]
    rfl
  · rfl

@[simp] theorem State.expireOverrides_zoneView : s.expireOverrides.zoneView z = s.zoneView z := by
  simp only [State.expireOverrides]
  split <;> rfl

@[simp] theorem State.authoritySecond_zoneView : s.authoritySecond.zoneView z = s.zoneView z := by
  simp only [State.authoritySecond]
  split <;> simp only [State.presenceRunOut_zoneView, State.expireOverrides_zoneView] <;> rfl

@[simp] theorem State.batteryAtSecond_zoneView (mv : Nat) : (s.batteryAtSecond mv).zoneView z = s.zoneView z := by
  simp only [State.batteryAtSecond, State.measureBattery]
  split
  · split
    · rfl
    · rw [State.report_zoneView]
      rfl
  · rfl

@[simp] theorem State.reportSensor_zoneView (i : Fin 3) (a b : SensorReason) :
    (s.reportSensor i a b).zoneView z = s.zoneView z := by
  simp only [State.reportSensor, State.setSensorCondition]
  repeat' split
  all_goals simp

@[simp] theorem State.reportLoss_zoneView (lost : Bool) : (s.reportLoss lost).zoneView z = s.zoneView z := by
  cases lost
  · rfl
  · exact s.report_zoneView z _

@[simp] theorem State.setGrants_zoneView (g : GrantMap) : (s.setGrants g).1.zoneView z = s.zoneView z := by
  rw [State.setGrants_eq]
  rfl

@[simp] theorem State.handOver_zoneView (p : Port) : (s.handOver p).zoneView z = s.zoneView z := by
  simp only [State.handOver]
  split <;> simp

@[simp] theorem State.take_zoneView (p : Port) (r : Request) : (s.take p r).zoneView z = s.zoneView z := by
  cases p <;> simp [State.take]

@[simp] theorem State.endWrite_zoneView (p : Port) : (s.endWrite p).zoneView z = s.zoneView z := by
  simp only [State.endWrite]
  split <;> simp

@[simp] theorem State.endSyncLost_zoneView : s.endSyncLost.zoneView z = s.zoneView z := by
  simp only [State.endSyncLost]
  split
  · rw [State.report_zoneView]
    rfl
  · rfl

end

/-! ### What the shared operations do to the zones -/

theorem Authority.killFor_eq (a : Authority) (z : Zone) :
    a.killFor z = (a.killInForce && a.kill.mask.getLsbD z.val) := rfl

/-- The kill formed afresh sets the hold of the installed zones that it newly covers (R78, R80, R99). -/
theorem State.setAuthority_channel (s : State) (a : Authority) (z : Zone) :
    (s.setAuthority a).drive.zones.get z =
      if s.installed z = true ∧ a.killFor z = true ∧ s.authority.killFor z = false then
        { s.drive.zones.get z with hold := true }
      else s.drive.zones.get z := by
  rw [State.setAuthority_eq]
  simp only [ZoneBank.get_ofFn]
  refine if_congr ?_ rfl rfl
  simp only [Authority.killFor_eq, Bool.and_eq_true, Bool.and_eq_false_iff]
  constructor
  · rintro ⟨⟨inForce, -⟩, on, covered, newly⟩
    exact ⟨on, ⟨inForce, covered⟩, newly⟩
  · rintro ⟨on, ⟨inForce, covered⟩, newly⟩
    exact ⟨⟨inForce, newly.imp_right fun out same => by rw [← same, covered] at out; cases out⟩, on, covered, newly⟩

/-- A kill formed afresh holds the installed zones that it newly covers (R78, R80, R99). -/
theorem State.setAuthority_moves (s : State) (a : Authority) : ZonesMove c s (s.setAuthority a) := fun z => by
  have view : (s.setAuthority a).zoneView z =
      { s.zoneView z with killed := a.killFor z, channel := (s.setAuthority a).drive.zones.get z } := by
    simp only [State.zoneView, State.setAuthority_eq, Recorder.appendAll_table]
  rw [view, State.setAuthority_channel]
  split
  next newly => exact Relation.ReflTransGen.tail (.single (.held newly.1)) (.killed _ fun _ => .inr fun _ => rfl)
  next old =>
    refine .single (.killed _ fun covered => ?_)
    by_cases before : s.authority.killFor z = true
    · exact .inl before
    · exact .inr fun on => absurd ⟨on, covered, Bool.not_eq_true _ ▸ before⟩ old

/-- The zone becomes locked out (R113). -/
theorem State.lockOut_moves (on : s.installed z = true) : ZonesMove c s (s.lockOut z) := by
  refine .at z _ (fun y => ?_) (.single (.lockedOut on))
  simp only [State.zoneView, State.lockOut, State.modChannel, State.modMonitor]
  by_cases hy : y = z <;> simp [hy]

theorem State.setEntry_moves {k : FaultKind} {e : FaultEntry} (on : s.installed z = true) :
    ZonesMove c s (s.setEntry z k e) := by
  refine .at z _ (fun y => ?_) (.single (.counted on ((s.recorder.table.get z).set k e)))
  simp only [State.zoneView, State.setEntry]
  by_cases hy : y = z <;> simp [hy]

theorem ZonesMove.report {r : Report} (h : ZonesMove c s t) : ZonesMove c s (t.report r) :=
  h.trans (.of_same (t.report_zoneView · r))

/-- An outcome moves the count of an installed zone, and may lock the zone out (R110, R113). -/
theorem State.qualify_moves {k : FaultKind} {o : SampleOutcome} {detail : Nat} (on : s.installed z = true) :
    ZonesMove c s (s.qualify z k o detail) := by
  have asserts {u : State} (h : u.installed z = true) : ZonesMove c u (u.assertFault z k detail) :=
    (State.setEntry_moves h).report
  cases o with
  | none => exact .refl
  | good =>
    simp only [State.qualify]
    split
    · exact State.setEntry_moves on
    · split
      · exact (State.setEntry_moves on).report
      · exact State.setEntry_moves on
  | bad =>
    simp only [State.qualify]
    split
    · exact State.setEntry_moves on
    · have full : ZonesMove c s (s.setCount z k s.monitor.limit) := State.setEntry_moves on
      split
      · exact full
      · split
        · exact (full.trans (asserts on)).trans (State.lockOut_moves on)
        · exact full.trans (asserts on)

theorem State.modMonitor_moves {f : MonitorZone → MonitorZone}
    (h : ZoneMove c z (s.zoneView z) { s.zoneView z with monitor := f (s.monitor.zones.get z) }) :
    ZonesMove c s (s.modMonitor z f) := by
  refine .at z _ (fun y => ?_) (.single h)
  simp only [State.zoneView, State.modMonitor]
  by_cases hy : y = z <;> simp [hy]

theorem State.modChannel_moves {f : Channel → Channel}
    (h : ZoneMove c z (s.zoneView z) { s.zoneView z with channel := f (s.drive.zones.get z) }) :
    ZonesMove c s (s.modChannel z f) := by
  refine .at z _ (fun y => ?_) (.single h)
  simp only [State.zoneView, State.modChannel]
  by_cases hy : y = z <;> simp [hy]

theorem ZonesMove.withDrive {d : Drive} (h : ZonesMove c s t) (zones : d.zones = t.drive.zones) :
    ZonesMove c s (t.withDrive d) :=
  h.trans (.of_same fun _ => State.zoneView_congr rfl rfl zones rfl rfl rfl)

/-- The ON point is sampled in an open window (R105, R106). -/
theorem State.sampleOn_moves {at_ : Nat} {off : Option Nat} {current : Nat} (on : s.installed z = true)
    (free : s.lockedOut z = false) : ZonesMove c s (s.sampleOn z at_ off current) := by
  have point := (State.modMonitor_moves (c := c) (f := fun m => { m with window := .opened none off })
    (.sampling on free _)).withDrive (d := { s.drive with sharedCount := countAt (s.drive.zones.get z).phase at_ }) rfl
  simp only [State.sampleOn]
  split
  · exact point
  · refine (point.trans (State.qualify_moves on)).trans (State.qualify_moves ?_)
    rw [State.qualify_installed]
    exact on

/-- The OFF point is sampled in an open window (R105, R106). -/
theorem State.sampleOff_moves {at_ current : Nat} (on : s.installed z = true) (free : s.lockedOut z = false) :
    ZonesMove c s (s.sampleOff z at_ current) :=
  ((State.modMonitor_moves (.sampling on free _)).withDrive
    (d := { s.drive with sharedCount := countAt (s.drive.zones.get z).phase at_ }) rfl).trans (State.qualify_moves on)

/-- A conversion is stored, and its outcomes are qualified unless the zone is locked out (R108, R109). -/
theorem State.convert_moves {code : Nat} (on : s.installed z = true) : ZonesMove c s (s.convert z code) := by
  have stored : ZonesMove c s (s.modMonitor z fun m => { m with latest := some ⟨code, celsiusOf code⟩ }) :=
    State.modMonitor_moves (.measured on _)
  simp only [State.convert]
  split
  · exact stored
  · refine (stored.trans (State.qualify_moves on)).trans (State.qualify_moves ?_)
    rw [State.qualify_installed]
    exact on

theorem State.takeEblank_moves {high : Bool} : ZonesMove c s (s.takeEblank high) :=
  State.setAuthority_moves s _

/-- A sync event arms the installed zones that wait for a swap (R96). -/
theorem State.syncEffects_moves (s : State) : ZonesMove c s s.syncEffects := by
  by_cases watching : s.drive.watching = true
  · intro z
    have view : s.syncEffects.zoneView z =
        if s.installed z = true ∧ (s.drive.zones.get z).swapPending = true then
          { s.zoneView z with channel := { s.drive.zones.get z with armed := true } } else s.zoneView z := by
      simp only [State.zoneView, State.syncEffects_eq s watching, ZoneBank.get_ofFn]
      split <;> split <;> simp
    rw [view]
    exact .ite fun h => .armed h.1
  · rw [State.syncEffects, if_neg watching]
    exact .refl

theorem State.takeFsync_moves {high : Bool} : ZonesMove c s (s.takeFsync high) := by
  have taken : ZonesMove c s (s.withDrive { s.drive with fsync := some high }) := .of_same fun _ => rfl
  simp only [State.takeFsync]
  split
  · exact taken
  · split
    · exact taken.trans (State.syncEffects_moves _)
    · exact taken

/-- ZONE_MODE stores the mode in the zones of the mask and stages it on the installed ones (R100). -/
theorem State.setOperator_moves (s : State) (mask : ZoneMask) (m : OperatorMode) :
    ZonesMove c s (s.setOperator mask m) := fun z => by
  rw [State.setOperator_eq]
  simp only [State.zoneView, ZoneBank.get_ofFn]
  by_cases covered : mask.getLsbD z.val = true
  · rw [if_pos covered]
    have stored : ZoneChange c z (s.zoneView z)
        { s.zoneView z with resolver := { s.resolver.get z with operator := m } } := .single (.operator _ m)
    split
    next both => exact stored.tail (.staged both.2 m)
    next => exact stored
  · rw [if_neg covered, if_neg fun both => covered both.1]

/-- DRIVE_SETUP disarms at a change of the swap mode (R98). -/
theorem State.setDriveTiming_moves (s : State) (f : BaseFrequency) (e : EdgeMode) (m : SwapMode) :
    ZonesMove c s (s.setDriveTiming f e m) := fun z => by
  have view : (s.setDriveTiming f e m).zoneView z =
      if m = s.drive.swapMode then s.zoneView z
      else { s.zoneView z with channel := { s.drive.zones.get z with armed := false } } := by
    simp only [State.setDriveTiming, apply_ite (State.zoneView · z), State.endSyncLost_zoneView, ite_self]
    split <;> simp only [State.zoneView, State.withDrive, ZoneBank.get_mapIdx]
  rw [view]
  split
  · exact .refl
  · exact .single .disarmed

/-- The Monitor's setup of a zone after a FAULT_SETUP over a mask (R114). -/
def State.setupAfter (s : State) (mask : ZoneMask) (a : FaultSetupArgs) (z : Zone) : MonitorZone :=
  if inMask mask z then (s.monitor.zones.get z).withSetup a else s.monitor.zones.get z

/-- A FAULT_SETUP locks the zone out: it turns the reaction of an asserted kind to OFF (R115). -/
def State.setupLocks (s : State) (mask : ZoneMask) (a : FaultSetupArgs) (z : Zone) : Bool :=
  inMask mask z && s.installed z && !s.lockedOut z &&
    turnedOff (s.monitor.zones.get z) (s.setupAfter mask a z) (s.recorder.table.get z)

theorem State.installed_of_setupLocks {mask : ZoneMask} {a : FaultSetupArgs} (h : s.setupLocks mask a z = true) :
    s.installed z = true := by
  simp only [State.setupLocks, Bool.and_eq_true] at h
  obtain ⟨⟨⟨-, on⟩, -⟩, -⟩ := h
  exact on

theorem State.setFaultSetup_zoneView (s : State) (mask : ZoneMask) (a : FaultSetupArgs) (q : Nat) (z : Zone) :
    (s.setFaultSetup mask a q).zoneView z =
      { s.zoneView z with
        channel :=
          if s.setupLocks mask a z then { s.drive.zones.get z with hold := true, supplyEnable := false }
          else s.drive.zones.get z
        monitor :=
          if s.setupLocks mask a z then { s.setupAfter mask a z with lockout := true, window := .idle }
          else s.setupAfter mask a z
        entries :=
          if q = s.monitor.limit then s.recorder.table.get z
          else (s.recorder.table.get z).map (FaultEntry.requalify q) } := by
  by_cases same : q = s.monitor.limit <;>
    simp only [State.setFaultSetup, same, if_true, if_false, State.zoneView, State.withMonitor, State.withDrive,
      State.withRecorder, ZoneBank.get_mapIdx] <;> rfl

/-- FAULT_SETUP stores setups, locks out what its reactions turn off, and requalifies under a new Q (R114, R115). -/
theorem State.setFaultSetup_moves (s : State) (mask : ZoneMask) (a : FaultSetupArgs) (q : Nat) :
    ZonesMove c s (s.setFaultSetup mask a q) := fun z => by
  have stored : ZoneChange c z (s.zoneView z) { s.zoneView z with monitor := s.setupAfter mask a z } := by
    unfold State.setupAfter
    split
    · exact .single (.setup a)
    · exact .refl
  have locked : ZoneChange c z (s.zoneView z)
      { s.zoneView z with
        channel :=
          if s.setupLocks mask a z then { s.drive.zones.get z with hold := true, supplyEnable := false }
          else s.drive.zones.get z
        monitor :=
          if s.setupLocks mask a z then { s.setupAfter mask a z with lockout := true, window := .idle }
          else s.setupAfter mask a z } := by
    split
    next locks => exact stored.tail (.lockedOut (State.installed_of_setupLocks locks))
    next => exact stored
  rw [State.setFaultSetup_zoneView]
  by_cases same : q = s.monitor.limit
  · rw [if_pos same]
    exact locked
  · rw [if_neg same]
    exact locked.tail (.requalified q)

/-- A rearm's kinds one after another clear the entries of an installed zone (R116). -/
theorem foldl_rearmKind_moves (ks : List FaultKind) (on : s.installed z = true) :
    let cleared := ks.foldl (fun u k => u.rearmKind z k) s
    ZonesMove c s cleared ∧ cleared.drive = s.drive ∧ cleared.supply = s.supply := by
  induction ks generalizing s with
  | nil => exact ⟨.refl, rfl, rfl⟩
  | cons k ks ih =>
    have first : ZonesMove c s (s.rearmKind z k) := by
      simp only [State.rearmKind]
      split
      · exact (State.setEntry_moves on).report
      · exact State.setEntry_moves on
    obtain ⟨moved, drive, supply⟩ := ih (s := s.rearmKind z k) (by simpa [State.installed] using on)
    exact ⟨first.trans moved, drive.trans (s.rearmKind_drive z k), supply.trans (s.rearmKind_supply z k)⟩

/-- A rearm clears the entries of an installed zone and ends its lockout (R116). -/
theorem State.rearm_moves (on : s.installed z = true) (run : s.supply.inReset = false) : ZonesMove c s (s.rearm z) := by
  obtain ⟨moved, drive, supply⟩ := foldl_rearmKind_moves (c := c) allKinds on
  simp only [State.rearm]
  split
  · refine moved.trans (.at z _ (fun y => ?_) (.single (.rearmed ?_ ?_)))
    · simp only [State.zoneView, State.endLockout, State.modChannel, State.modMonitor]
      by_cases hy : y = z <;> simp [hy]
    · rw [ZoneView.installed, State.zoneView, drive]
      exact on
    · simpa [State.zoneView, supply] using run
  · exact moved

/-- ZONE_SETUP installs a zone, uninstalls it, or stores a record alone (R89 to R91). -/
theorem State.setZoneRecord_moves {rec : ZoneRecord} (run : s.supply.inReset = false) :
    ZonesMove c s (s.setZoneRecord z rec) := by
  have alone (same : s.installed z = rec.installed) : ZonesMove c s (s.modChannel z fun c => { c with record := rec }) :=
    State.modChannel_moves (.recorded rec same.symm)
  cases before : s.installed z <;> cases after : rec.installed <;> simp only [State.setZoneRecord, before, after]
  · exact alone (before.trans after.symm)
  · exact State.modChannel_moves (.installed rec _ before after run)
  · refine .at z _ (fun y => ?_) (.single (.uninstalled rec after))
    simp only [State.zoneView, State.clearZone, State.modChannel, State.modMonitor]
    by_cases hy : y = z <;> simp [hy]
  · exact alone (before.trans after.symm)

/-- A source of a main reset takes every supply enable low (R165). -/
theorem State.beginReset_moves (s : State) (source : ResetCause) : ZonesMove c s (s.beginReset source) := fun z => by
  have view : (s.beginReset source).zoneView z =
      { s.zoneView z with inReset := true, channel := { s.drive.zones.get z with supplyEnable := false } } := by
    simp [State.zoneView, State.beginReset]
  rw [view]
  exact .single .resetBegun

/-! ### What every command does to the zones -/

theorem resolveExpiry_zoneView (run : s.supply.inReset = false) (h : exec .resolveExpiry s = .next t) (z : Zone) :
    t.zoneView z =
      { s.zoneView z with
        channel := t.drive.zones.get z, resolver := t.resolver.get z
        monitor :=
          { s.monitor.zones.get z with window := if s.installed z && !s.lockedOut z then .waiting else .idle } } := by
  rw [exec_resolveExpiry, execResolveExpiry, if_pos (by simp [State.running, run])] at h
  cases h
  simp only [State.zoneView, State.withMonitor_monitor, ZoneBank.get_mapIdx]
  rfl

/-- A resolve expiry resolves the installed zones and lets their windows wait (R1, R21, R104). -/
theorem resolveExpiry_moves (h : exec .resolveExpiry s = .next t) : ZonesMove .resolveExpiry s t := by
  cases run : s.supply.inReset with
  | true =>
    rw [exec_resolveExpiry, execResolveExpiry, if_neg (by simp [State.running, run])] at h
    cases h
    exact .refl
  | false =>
    intro z
    rw [resolveExpiry_zoneView run h, drive_get_of_resolveExpiry run h, resolver_get_of_resolveExpiry run h]
    cases on : s.installed z with
    | false => exact .single (.idling _ fun _ => rfl)
    | true =>
      have resolved : ZoneChange .resolveExpiry z (s.zoneView z)
          { s.zoneView z with
            resolver := s.resolveZone z
            channel := { s.drive.zones.get z with dutyBuffer := (s.resolveZone z).duty, swapPending := true } } :=
        .single (.resolved on _ (dutyOf_le_full _ _))
      cases free : s.lockedOut z with
      | false => exact resolved.tail (.sampling on free _)
      | true => exact resolved.tail (.idling _ fun _ => rfl)

/-- No period end brings a window out of IDLE (R104). -/
theorem windowAtPeriodEnd_idle (before after : Channel) : windowAtPeriodEnd before after .idle = .idle := by
  unfold windowAtPeriodEnd
  split <;> rfl

theorem periodEnd_zoneView (run : s.supply.inReset = false) (h : exec (.periodEnd z) s = .next t) (y : Zone) :
    t.zoneView y =
      if y = z then
        { s.zoneView z with
          channel :=
            (s.drive.zones.get z).atPeriodEnd (s.authority.killFor z || s.lockedOut z) s.drive.autoSwaps
          monitor :=
            { s.monitor.zones.get z with
              window := windowAtPeriodEnd (s.drive.zones.get z)
                ((s.drive.zones.get z).atPeriodEnd (s.authority.killFor z || s.lockedOut z) s.drive.autoSwaps)
                (s.monitor.zones.get z).window } }
      else s.zoneView y := by
  have running : s.running = true := by simp [State.running, run]
  cases h
  rw [if_pos running]
  by_cases hy : y = z <;> simp [State.zoneView, State.modMonitor, hy]

/-- A period end forms the period of its zone and moves the zone's window (R92, R104). -/
theorem periodEnd_moves (h : exec (.periodEnd z) s = .next t) : ZonesMove (.periodEnd z) s t := by
  cases run : s.supply.inReset with
  | true =>
    cases h
    rw [if_neg (by simp [State.running, run])]
    exact .refl
  | false =>
    refine .at z _ (periodEnd_zoneView run h)
      (.tail (.single (.periodEnd s.drive.autoSwaps rfl)) (.idling _ fun idle => ?_))
    rw [show (s.monitor.zones.get z).window = .idle from idle, windowAtPeriodEnd_idle]

theorem State.resetMain_zoneView (s : State) (lost : Bool) (a o : Fin 4) (z : Zone) :
    (s.resetMain lost a o).zoneView z =
      { inReset := false, killed := (authorityAfterReset s.authority.kill s.authority.settings).killFor z
        channel := channelAfterReset z, resolver := resolverZoneAfterReset, monitor := monitorZoneAfterReset
        entries := emptyEntries } := by
  simp [State.zoneView, State.resetMain, driveAfterReset, monitorAfterReset, recorderAfterReset]

theorem mainResetEnd_zoneView {a o : Fin 4} (under : s.supply.inReset = true) (supply : s.supply.supplyLow = false)
    (pin : s.supply.pinLow = false) (h : exec (.mainResetEnd a o) s = .next t) (z : Zone) :
    ∃ k, t.zoneView z =
      { inReset := false, killed := k, channel := channelAfterReset z, resolver := resolverZoneAfterReset
        monitor := monitorZoneAfterReset, entries := emptyEntries } := by
  cases h
  rw [if_pos (by simp [under, supply, pin])]
  exact ⟨_, by rw [State.evaluate_zoneView, State.reportLoss_zoneView, State.resetMain_zoneView]⟩

/-- The end of a main reset gives every zone its reset values (R165). -/
theorem mainResetEnd_moves {a o : Fin 4} (h : exec (.mainResetEnd a o) s = .next t) :
    ZonesMove (.mainResetEnd a o) s t := fun z => by
  by_cases due : s.supply.inReset = true ∧ s.supply.supplyLow = false ∧ s.supply.pinLow = false
  · obtain ⟨under, supply, pin⟩ := due
    obtain ⟨k, view⟩ := mainResetEnd_zoneView under supply pin h z
    rw [view]
    exact .single (.resetEnded k ⟨a, o, rfl⟩)
  · cases h
    rw [if_neg (by simpa [and_assoc] using due)]

/-- A GAIN_WRITE stores the gain in the zones of its mask (R7). -/
theorem gainWrite_moves {mask : ZoneMask} {gain : Nat} :
    ZonesMove c s (s.withResolver (s.resolver.mapIdx fun z x => if inMask mask z then { x with gain } else x)) :=
  fun z => by
    simp only [State.zoneView, State.withResolver_resolver, ZoneBank.get_mapIdx]
    split
    · exact .single (.operator gain _)
    · exact .refl

/-- Every command changes every zone in the ways of `ZoneMove` alone. -/
theorem exec_zones (h : exec c s = .next t) : ZonesMove c s t := by
  cases c with
  | resolveExpiry => exact resolveExpiry_moves h
  | periodEnd z => exact periodEnd_moves h
  | mainResetEnd a o => exact mainResetEnd_moves h
  | samplePoint z pt current =>
    cases h
    split
    next open_ =>
      simp only [Bool.and_eq_true, Bool.not_eq_true'] at open_
      obtain ⟨⟨-, on⟩, free⟩ := open_
      split
      · exact State.sampleOn_moves on free
      · exact State.sampleOff_moves on free
      · exact .refl
    next => exact .refl
  | conversionCompletion code =>
    cases h
    split
    next => exact .refl
    next scan _ =>
      split
      next =>
        split
        next => exact .of_same fun _ => rfl
        next ready =>
          simp only [Bool.or_eq_true, Bool.not_eq_true', not_or, Bool.not_eq_false] at ready
          exact (State.convert_moves ready.2).trans (.of_same fun _ => rfl)
      next => exact .refl
  | eblankActiveEdge | eblankInactiveEdge =>
    cases h
    split
    · split
      · exact State.takeEblank_moves
      · exact .refl
    · exact .refl
  | killStartUpTake high =>
    cases h
    split
    · exact .refl
    · split
      · exact State.takeEblank_moves
      · exact .refl
  | fsyncLevelTaken high | syncEvent high =>
    cases h
    split
    · exact State.takeFsync_moves
    · exact .refl
  | gainWrite p =>
    cases h
    refine .serve fun _ r => ?_
    split
    · exact .refl
    · exact gainWrite_moves
  | zoneMode p =>
    cases h
    refine .serve fun _ r => ?_
    split
    · exact .refl
    · split
      · exact .refl
      · exact State.setOperator_moves s _ _
  | zoneSetup p =>
    cases h
    refine .serve fun run r => ?_
    split
    · exact State.setZoneRecord_moves run
    · exact .refl
  | killSetup p =>
    cases h
    refine .serve fun _ r => ?_
    split
    · split
      · exact .refl
      · exact State.setAuthority_moves s _
    · exact .refl
  | killRelease p =>
    cases h
    refine .serve fun _ r => ?_
    split
    · exact .refl
    · split
      · exact .refl
      · exact State.setAuthority_moves s _
  | faultSetup p =>
    cases h
    refine .serve fun _ r => ?_
    split
    · exact .refl
    · split
      · exact .refl
      · exact State.setFaultSetup_moves s _ _ _
  | zoneRearm p =>
    cases h
    refine .serve fun run r => ?_
    split
    · exact .refl
    · split
      next on => exact State.rearm_moves on run
      next => exact .refl
  | authSetup p =>
    cases h
    refine .serve fun _ r => .of_same fun z => ?_
    dsimp only
    split <;> rfl
  | driveSetup p =>
    cases h
    refine .serve fun _ r => ?_
    split
    · exact State.setDriveTiming_moves s _ _ _
    · exact .refl
  | deviceReset p =>
    cases h
    split
    · exact .refl
    · split
      · exact .of_same fun _ => rfl
      · split
        · exact .of_same fun _ => rfl
        · exact State.beginReset_moves s _
  | brownOut =>
    cases h
    split
    · exact .refl
    · exact .trans (t := s.beginReset .power) (State.beginReset_moves s _) (.of_same fun _ => rfl)
  | resetNAssert =>
    cases h
    split
    · exact .refl
    · exact .trans (t := s.beginReset .pin) (State.beginReset_moves s _) (.of_same fun _ => rfl)
  -- the requests that only read
  | status p | clockRead p | epochRead p | curveRead p | sensorRead p | zoneRead p | gainRead p | levelRead p | ovrList p
  | authRead p | grantRead p | faultRead p => cases h; exact .serve fun _ _ => .refl
  -- the other requests with a rule of their own
  | clockSet p | epochWrite p | epochErase p | curveWrite p | sensorSetup p | ovrPush p | ovrRemove p | ovrClear p
  | grantSet p | journalRead p | attnRead p | attnMask p =>
    cases h
    refine .serve fun _ r => .of_same fun z => ?_
    repeat' ((try dsimp only); split)
    all_goals simp
  -- the events that reach no zone
  | gateCompletion e0 e1 e2 | secondRollover | timebaseFailure p | timebaseFirstEdge | backupStorageDisturbance i contents
  | uptimeSecond mv first | overrideExpired | presenceTimeout | countClockSwitch | syncWatchExpiry | writeAddress p addr
  | dataByte p b | requestTaken w | responseRead p addr | unknownCode p | mainSupplyRise | resetNRelease
  | retentionLoss =>
    cases h
    refine .of_same fun z => ?_
    repeat' ((try dsimp only); split)
    all_goals simp

end Sys2Proof.Machine
end

section
/-! PROOF. O7 and O13: what a period end makes of a channel, and what each of the ways in which a command can change a zone keeps of
its compare, its accumulator and its outputs (R94, R99, R101, R102, R113, R117). -/

namespace Sys2Proof.Machine

variable {c : Instr} {s t : State} {z : Zone} {v w : ZoneView} {ch : Channel} {forced autoSwaps : Bool}

/-! ### The channel after a period end (R90 to R95) -/

@[simp] theorem Channel.releaseHold_record : (ch.releaseHold forced).record = ch.record := by cases forced <;> rfl
@[simp] theorem Channel.releaseHold_phase : (ch.releaseHold forced).phase = ch.phase := by cases forced <;> rfl
@[simp] theorem Channel.releaseHold_acc : (ch.releaseHold forced).acc = ch.acc := by cases forced <;> rfl
@[simp] theorem Channel.releaseHold_activeDuty : (ch.releaseHold forced).activeDuty = ch.activeDuty := by
  cases forced <;> rfl
@[simp] theorem Channel.releaseHold_dutyBuffer : (ch.releaseHold forced).dutyBuffer = ch.dutyBuffer := by
  cases forced <;> rfl
@[simp] theorem Channel.releaseHold_activeMode : (ch.releaseHold forced).activeMode = ch.activeMode := by
  cases forced <;> rfl
@[simp] theorem Channel.releaseHold_bufferedMode : (ch.releaseHold forced).bufferedMode = ch.bufferedMode := by
  cases forced <;> rfl
@[simp] theorem Channel.releaseHold_supplyEnable : (ch.releaseHold forced).supplyEnable = ch.supplyEnable := by
  cases forced <;> rfl

/-- The force hold stays under a forcing cause and clears without one (R99). -/
@[simp] theorem Channel.releaseHold_hold : (ch.releaseHold forced).hold = (forced && ch.hold) := by
  cases forced <;> rfl

/-- A period begins with the duty and the mode in force or, at a swap, with the buffered ones (R92, R95). -/
theorem Channel.beginPeriod_swaps (ch : Channel) (autoSwaps : Bool) :
    ∃ swaps : Bool,
      let b := ch.beginPeriod autoSwaps
      let duty := if swaps then ch.dutyBuffer else ch.activeDuty
      b.activeDuty = duty ∧ b.activeMode = (if swaps then ch.bufferedMode else ch.activeMode) ∧
        b.compare = (formCompare duty ch.acc ch.record.minOn).1 ∧ b.acc = (formCompare duty ch.acc ch.record.minOn).2 ∧
        b.record = ch.record ∧ b.dutyBuffer = ch.dutyBuffer ∧ b.bufferedMode = ch.bufferedMode ∧ b.hold = ch.hold ∧
        b.supplyEnable = ch.supplyEnable := by
  refine ⟨ch.firstPeriod || ch.swapDue autoSwaps, ?_⟩
  unfold Channel.beginPeriod
  cases ch.firstPeriod <;> cases ch.swapDue autoSwaps <;> simp [Channel.swap]

/-- A period end of an uninstalled zone leaves it a compare of 0 (R90). -/
theorem Channel.atPeriodEnd_of_off (off : ch.record.installed = false) :
    ch.atPeriodEnd forced autoSwaps = { ch with compare := 0 } := by
  simp [Channel.atPeriodEnd, off]

/-- A period end takes a staged phase (R91, R92). -/
theorem Channel.atPeriodEnd_of_staged (on : ch.record.installed = true) (staged : ch.record.phase ≠ ch.phase) :
    ch.atPeriodEnd forced autoSwaps = (ch.releaseHold forced).takePhase := by
  simp [Channel.atPeriodEnd, Channel.phaseStaged, on, staged]

/-- A period end of an installed zone without a staged phase begins a period (R92). -/
theorem Channel.atPeriodEnd_of_unstaged (on : ch.record.installed = true) (unstaged : ch.record.phase = ch.phase) :
    ch.atPeriodEnd forced autoSwaps = (ch.releaseHold forced).beginPeriod autoSwaps := by
  simp [Channel.atPeriodEnd, Channel.phaseStaged, on, unstaged]

/-- What a period end keeps of every channel, what it can put in force, and that the force hold stays under a forcing cause (R92,
R95, R99). -/
theorem Channel.atPeriodEnd_fields (ch : Channel) (forced autoSwaps : Bool) :
    let e := ch.atPeriodEnd forced autoSwaps
    e.record = ch.record ∧ e.bufferedMode = ch.bufferedMode ∧ e.supplyEnable = ch.supplyEnable ∧
      (e.activeMode = ch.activeMode ∨ e.activeMode = ch.bufferedMode) ∧
      (forced = true → ch.hold = true → e.hold = true) := by
  cases on : ch.record.installed with
  | false => simp [Channel.atPeriodEnd_of_off on]
  | true =>
    by_cases staged : ch.record.phase = ch.phase
    · obtain ⟨swaps, -, mode, -, -, record, -, buffered, hold, enable⟩ :=
        (ch.releaseHold forced).beginPeriod_swaps autoSwaps
      rw [Channel.atPeriodEnd_of_unstaged on staged]
      refine ⟨by simpa using record, by simpa using buffered, by simpa using enable, ?_, fun cause set => by
        simpa [cause, set] using hold⟩
      cases swaps with
      | false => exact .inl (by simpa using mode)
      | true => exact .inr (by simpa using mode)
    · rw [Channel.atPeriodEnd_of_staged on staged]
      simp +contextual [Channel.takePhase]

/-! ### The compare and the dither accumulator (R93, R102) -/

/-- A compare formed from a duty lies in 0 to 4096, and what is carried over in 0 to 15 (R93). -/
theorem formCompare_range {duty acc : Nat} (full : duty ≤ 65535) (carried : acc ≤ 15) (minOn : Nat) :
    (formCompare duty acc minOn).1 ≤ 4096 ∧ (formCompare duty acc minOn).2 ≤ 15 := by
  unfold formCompare
  dsimp only
  constructor <;> repeat' split
  all_goals omega

/-- The law of R102 for a channel, with the ranges of the duties that its compare is formed from (R85). -/
def Channel.Dithers (ch : Channel) : Prop :=
  ch.activeDuty ≤ 65535 ∧ ch.dutyBuffer ≤ 65535 ∧ ch.compare ≤ 4096 ∧ ch.acc ≤ 15

theorem Channel.Dithers.atPeriodEnd (h : ch.Dithers) (forced autoSwaps : Bool) :
    (ch.atPeriodEnd forced autoSwaps).Dithers := by
  obtain ⟨active, buffer, compare, acc⟩ := h
  cases on : ch.record.installed with
  | false =>
    rw [Channel.atPeriodEnd_of_off on]
    exact ⟨active, buffer, Nat.zero_le _, acc⟩
  | true =>
    by_cases staged : ch.record.phase = ch.phase
    · obtain ⟨swaps, duty, -, formed, carried, -, kept, -⟩ := (ch.releaseHold forced).beginPeriod_swaps autoSwaps
      simp only [Channel.releaseHold_dutyBuffer, Channel.releaseHold_activeDuty, Channel.releaseHold_acc,
        Channel.releaseHold_record] at duty formed carried kept
      have full : (if swaps = true then ch.dutyBuffer else ch.activeDuty) ≤ 65535 := by split <;> assumption
      have range := formCompare_range full acc ch.record.minOn
      rw [Channel.atPeriodEnd_of_unstaged on staged]
      exact ⟨duty ▸ full, kept ▸ buffer, formed ▸ range.1, carried ▸ range.2⟩
    · rw [Channel.atPeriodEnd_of_staged on staged]
      exact ⟨by simpa [Channel.takePhase] using active, by simpa [Channel.takePhase] using buffer, Nat.zero_le _,
        by simpa [Channel.takePhase] using acc⟩

/-! ### What the moves keep (R102) -/

/-- What every move of a command keeps, the command keeps. -/
theorem ZoneChange.keeps {P : ZoneView → Prop} (h : ZoneChange c z v w) (hv : P v)
    (move : ∀ v w, ZoneMove c z v w → P v → P w) : P w := by
  induction h with
  | refl => exact hv
  | tail _ last ih => exact move _ _ last ih

theorem ZoneMove.dithers (h : ZoneMove c z v w) (law : v.channel.Dithers) : w.channel.Dithers := by
  have ⟨active, buffer, compare, acc⟩ := law
  cases h with
  | resolved on r full => exact ⟨active, full, compare, acc⟩
  | periodEnd => exact law.atPeriodEnd _ _
  | installed | uninstalled => exact ⟨Nat.zero_le _, Nat.zero_le _, compare, Nat.zero_le _⟩
  | resetEnded => exact ⟨Nat.zero_le _, Nat.zero_le _, Nat.zero_le _, Nat.zero_le _⟩
  | _ => exact law

/-- A compare changes at the zone's period end or at the end of a main reset. -/
theorem ZoneMove.compare_eq (h : ZoneMove c z v w) :
    w.channel.compare = v.channel.compare ∨ c = .periodEnd z ∨ ∃ a o, c = .mainResetEnd a o := by
  cases h with
  | periodEnd _ own => exact .inr (.inl own)
  | resetEnded _ own => exact .inr (.inr own)
  | _ => exact .inl rfl

/-- An uninstallation leaves an accumulator of 0, and no other move of an uninstalled zone reaches it (R90). -/
theorem ZoneMove.acc_of_off (h : ZoneMove c z v w) (law : v.installed ∨ v.channel.acc = 0) :
    w.installed ∨ w.channel.acc = 0 := by
  cases h with
  | recorded rec same => exact law.imp_left same.trans
  | periodEnd =>
    cases on : v.channel.record.installed with
    | true =>
      obtain ⟨record, -⟩ := v.channel.atPeriodEnd_fields _ _
      exact .inl ((congrArg ZoneRecord.installed record).trans on)
    | false =>
      right
      rw [Channel.atPeriodEnd_of_off on]
      exact law.resolve_left (by simp [on])
  | installed | uninstalled | resetEnded => exact .inr rfl
  | _ => exact law

theorem drive_get_of_periodEnd (run : s.supply.inReset = false) (h : exec (.periodEnd z) s = .next t) :
    t.drive.zones.get z =
      (s.drive.zones.get z).atPeriodEnd (s.authority.killFor z || s.lockedOut z) s.drive.autoSwaps :=
  congrArg ZoneView.channel ((periodEnd_zoneView run h z).trans (if_pos rfl))

theorem drive_get_of_mainResetEnd {a o : Fin 4} (under : s.supply.inReset = true) (supply : s.supply.supplyLow = false)
    (pin : s.supply.pinLow = false) (h : exec (.mainResetEnd a o) s = .next t) :
    t.drive.zones.get z = channelAfterReset z := by
  obtain ⟨k, view⟩ := mainResetEnd_zoneView under supply pin h z
  exact congrArg ZoneView.channel view

/-- Settles O7: the law and the clauses by what each move keeps, the rest by what a period end and the end of a main reset leave. -/
theorem compareStaysInRangeAndChangesAtPeriodEnds : Obligations.CompareStaysInRangeAndChangesAtPeriodEnds := by
  refine ⟨fun s t ranges law h z => ?law, fun c s t z h changed => ?changes, fun s t z run h => ?period,
    fun c s t z h on off => ?uninstalled, fun s t a o z under supply pin h => ?reset⟩
  case law =>
    rcases step_cases h with rfl | ⟨c, rest, -, run⟩
    · exact law z
    · obtain ⟨-, ranges⟩ := ranges
      obtain ⟨-, ⟨-, -, -, -, -, active, buffer⟩, -⟩ := ranges z
      have before : (s.drive.zones.get z).Dithers := ⟨active, buffer, law z⟩
      obtain ⟨-, -, after⟩ := ZoneChange.keeps (P := fun v => v.channel.Dithers) (exec_zones run z) before
        fun _ _ => ZoneMove.dithers
      exact after
  case changes =>
    refine (ZoneChange.keeps (P := fun v => v.channel.compare = (s.drive.zones.get z).compare ∨ _) (exec_zones h z)
      (.inl rfl) fun v w move law => ?_).resolve_left changed
    rcases move.compare_eq with same | own
    · exact law.imp_left same.trans
    · exact .inr own
  case period =>
    rw [drive_get_of_periodEnd run h]
    refine ⟨fun off => ?_, fun on staged => ?_⟩
    · rw [Channel.atPeriodEnd_of_off off]
    · rw [Channel.atPeriodEnd_of_staged on staged]
      exact ⟨rfl, Channel.releaseHold_acc⟩
  case uninstalled =>
    refine (ZoneChange.keeps (P := fun v => v.installed ∨ v.channel.acc = 0) (exec_zones h z) (.inl on)
      fun _ _ => ZoneMove.acc_of_off).resolve_left fun still => ?_
    rw [State.installed, show (t.drive.zones.get z).record.installed = true from still] at off
    cases off
  case reset =>
    rw [drive_get_of_mainResetEnd under supply pin h]
    exact ⟨rfl, rfl⟩

/-! ### What the moves keep of a zone's outputs (R94, R99, R101, R113, R117) -/

/-- An uninstalled zone holds nothing (R24, R90, R117, R120). -/
structure ZoneView.Off (v : ZoneView) : Prop where
  activeMode : v.channel.activeMode = .float
  bufferedMode : v.channel.bufferedMode = .float
  activeDuty : v.channel.activeDuty = 0
  dutyBuffer : v.channel.dutyBuffer = 0
  acc : v.channel.acc = 0
  swapPending : v.channel.swapPending = false
  armed : v.channel.armed = false
  firstPeriod : v.channel.firstPeriod = false
  hold : v.channel.hold = false
  present : v.resolver.present = 0
  target : v.resolver.target = 0
  ceiling : v.resolver.ceiling = 0
  reason : v.resolver.reason = .none
  duty : v.resolver.duty = 0
  lockout : v.monitor.lockout = false
  window : v.monitor.window = .idle
  latest : v.monitor.latest = none
  entries : ∀ k ∈ allKinds, v.entries.get k = ⟨0, false, 0, none⟩

/-- The law of a zone's outputs (R94, R99, R101, R113). -/
structure ZoneView.Lawful (v : ZoneView) : Prop where
  off : v.channel.record.installed = false → v.Off
  on : v.installed → v.channel.activeMode ≠ .float ∧ v.channel.bufferedMode ≠ .float ∧
    (v.killed = true → v.channel.hold = true)
  enable : v.channel.supplyEnable = (!v.inReset && v.channel.record.installed && !v.monitor.lockout)
  locked : v.monitor.lockout = true → v.channel.hold = true ∧ v.monitor.window = .idle

theorem uninstalledLaw_iff : UninstalledLaw s z ↔ (s.zoneView z).Off :=
  ⟨fun ⟨mode, buffered, duty, buffer, acc, swap, armed, first, hold, present, target, ceiling, reason, level, lockout,
      window, latest, entries⟩ =>
    ⟨mode, buffered, duty, buffer, acc, swap, armed, first, hold, present, target, ceiling, reason, level, lockout,
      window, latest, entries⟩,
    fun off => ⟨off.activeMode, off.bufferedMode, off.activeDuty, off.dutyBuffer, off.acc, off.swapPending, off.armed,
      off.firstPeriod, off.hold, off.present, off.target, off.ceiling, off.reason, off.duty, off.lockout, off.window,
      off.latest, off.entries⟩⟩

theorem outputLaw_iff (s : State) : OutputLaw s ↔ ∀ z, (s.zoneView z).Lawful :=
  forall_congr' fun _ =>
    ⟨fun ⟨off, on, enable, locked⟩ => ⟨fun out => uninstalledLaw_iff.1 (off out), on, enable, locked⟩,
      fun law => ⟨fun out => uninstalledLaw_iff.2 (law.off out), law.on, law.enable, law.locked⟩⟩

/-- An installed zone is lawful by the rules of installed zones. -/
theorem ZoneView.Lawful.of_installed (inst : v.installed)
    (on : v.channel.activeMode ≠ .float ∧ v.channel.bufferedMode ≠ .float ∧ (v.killed = true → v.channel.hold = true))
    (enable : v.channel.supplyEnable = (!v.inReset && v.channel.record.installed && !v.monitor.lockout))
    (locked : v.monitor.lockout = true → v.channel.hold = true ∧ v.monitor.window = .idle) : v.Lawful where
  off out := absurd (out.symm.trans inst) (by decide)
  on _ := on
  enable := enable
  locked := locked

/-- An uninstalled zone is lawful by holding nothing, its supply enable low. -/
theorem ZoneView.Lawful.of_off (out : v.channel.record.installed = false) (off : v.Off)
    (low : v.channel.supplyEnable = false) : v.Lawful where
  off _ := off
  on inst := absurd (out.symm.trans inst) (by decide)
  enable := by rw [low, out, Bool.and_false, Bool.false_and]
  locked locked := absurd (off.lockout.symm.trans locked) (by decide)

/-- A new Q leaves empty entries empty (R115, R120). -/
theorem requalify_empty {es : KindBank FaultEntry} (h : ∀ k ∈ allKinds, es.get k = ⟨0, false, 0, none⟩) (q : Nat) :
    ∀ k ∈ allKinds, (es.map (FaultEntry.requalify q)).get k = ⟨0, false, 0, none⟩ := fun k mem => by
  rw [KindBank.get_map, h k mem]
  rfl

theorem emptyEntries_empty : ∀ k ∈ allKinds, emptyEntries.get k = ⟨0, false, 0, none⟩ := by decide

theorem modeOf_ne_float (m : OperatorMode) : modeOf m ≠ .float := by cases m <;> decide

/-- A period end keeps the law: the mode that it puts in force was in force or buffered, and the hold stays under the kill and the
lockout (R92, R94, R99). -/
theorem ZoneView.Lawful.atPeriodEnd (law : v.Lawful) (autoSwaps : Bool) :
    ({ v with channel := v.channel.atPeriodEnd (v.killed || v.monitor.lockout) autoSwaps } : ZoneView).Lawful := by
  obtain ⟨off, on, enable, locked⟩ := law
  cases inst : v.channel.record.installed with
  | false =>
    rw [Channel.atPeriodEnd_of_off inst]
    exact ⟨fun out => { off out with }, on, enable, locked⟩
  | true =>
    obtain ⟨active, buffered, killed⟩ := on inst
    obtain ⟨record, mode, supply, swapped, held⟩ :=
      v.channel.atPeriodEnd_fields (v.killed || v.monitor.lockout) autoSwaps
    refine .of_installed ((congrArg ZoneRecord.installed record).trans inst) ⟨?_, ?_, fun k => ?_⟩ ?_ fun l => ?_
    · rcases swapped with same | new
      · exact same ▸ active
      · exact new ▸ buffered
    · exact mode ▸ buffered
    · exact held (by simp [show v.killed = true from k]) (killed k)
    · exact supply.trans (record ▸ enable)
    · exact ⟨held (by simp [show v.monitor.lockout = true from l]) (locked l).1, (locked l).2⟩

/-- Every move keeps the law of the zone's outputs. -/
theorem ZoneMove.lawful (h : ZoneMove c z v w) (law : v.Lawful) : w.Lawful := by
  have ⟨off, on, enable, locked⟩ := law
  cases h with
  -- the moves of any zone
  | operator | setup => exact ⟨fun out => { off out with }, on, enable, locked⟩
  | requalified q =>
    exact ⟨fun out => { off out with entries := requalify_empty (off out).entries q }, on, enable, locked⟩
  | disarmed => exact ⟨fun out => { off out with armed := rfl }, on, enable, locked⟩
  | recorded rec same =>
    exact ⟨fun out => { off (same.symm.trans out) with }, fun inst => on (same.symm.trans inst), same ▸ enable, locked⟩
  | killed k held =>
    refine ⟨fun out => { off out with }, fun inst => ?_, enable, locked⟩
    obtain ⟨active, buffered, killed⟩ := on inst
    exact ⟨active, buffered, fun covered => (held covered).elim killed fun set => set inst⟩
  | idling w idle =>
    exact ⟨fun out => { off out with window := idle (off out).window }, on, enable,
      fun l => (locked l).imp_right idle⟩
  | periodEnd autoSwaps => exact law.atPeriodEnd autoSwaps
  | resetBegun => exact ⟨fun out => { off out with }, on, by simp, locked⟩
  -- the moves of an installed zone
  | held inst =>
    obtain ⟨active, buffered, -⟩ := on inst
    exact .of_installed inst ⟨active, buffered, fun _ => rfl⟩ enable fun l => ⟨rfl, (locked l).2⟩
  | resolved inst | armed inst | counted inst | measured inst => exact .of_installed inst (on inst) enable locked
  | staged inst m =>
    obtain ⟨active, -, killed⟩ := on inst
    exact .of_installed inst ⟨active, modeOf_ne_float m, killed⟩ enable locked
  | sampling inst free =>
    exact .of_installed inst (on inst) enable fun l => absurd (free.symm.trans l) (by decide)
  | lockedOut inst =>
    obtain ⟨active, buffered, -⟩ := on inst
    exact .of_installed inst ⟨active, buffered, fun _ => rfl⟩ (by simp) fun _ => ⟨rfl, rfl⟩
  | rearmed inst run =>
    exact .of_installed inst (on inst) (by simp only [run, show v.channel.record.installed = true from inst]; rfl) nofun
  -- the moves that install or uninstall it
  | installed rec m out inst run =>
    have free : v.monitor.lockout = false := (off out).lockout
    refine .of_installed inst ⟨nofun, modeOf_ne_float m, id⟩ ?_ fun l => absurd (free.symm.trans l) (by decide)
    simp only [Channel.install, run, inst, free]
    rfl
  | uninstalled rec out =>
    refine .of_off out ?_ rfl
    constructor
    case entries => exact emptyEntries_empty
    all_goals rfl
  | resetEnded k =>
    refine .of_off rfl ?_ rfl
    constructor
    case entries => exact emptyEntries_empty
    all_goals rfl

/-- Settles O13: every command changes every zone by moves, and each move keeps the law of the zone's outputs. -/
theorem supplyEnablesHoldsAndModesFollowTheZones : Obligations.SupplyEnablesHoldsAndModesFollowTheZones := by
  intro s t law h
  rcases step_cases h with rfl | ⟨c, rest, -, run⟩
  · exact law
  · exact (outputLaw_iff t).2 fun z =>
      ZoneChange.keeps (exec_zones run z) ((outputLaw_iff s).1 law z) fun _ _ => ZoneMove.lawful

end Sys2Proof.Machine
end

section
/-! PROOF. For O5: Q and the Fault Table, what each operation that reaches them leaves of an entry (R110, R115 to R117), and that six
commands alone reach them. -/

namespace Sys2Proof.Machine

variable {c : Instr} {s t : State} {z : Zone} {k : FaultKind} {q : Nat} {e : FaultEntry}

/-! ### The law of one entry (R118) -/

/-- R118 for one entry under Q. -/
def FaultEntry.Agrees (q : Nat) (e : FaultEntry) : Prop :=
  e.count ≤ q ∧ (e.count = q → e.asserted = true) ∧ (e.count = 0 → e.asserted = false)

theorem qualificationLaw_iff (s : State) :
    QualificationLaw s ↔
      2 ≤ s.monitor.limit ∧ s.monitor.limit ≤ 15 ∧ ∀ z k, (s.entry z k).Agrees s.monitor.limit :=
  ⟨fun ⟨low, high, law⟩ => ⟨low, high, fun z k => law z k (mem_allKinds k)⟩,
    fun ⟨low, high, law⟩ => ⟨low, high, fun z k _ => law z k⟩⟩

/-- The entry with its count at 0 and its flag clear (R116). -/
def FaultEntry.cleared (e : FaultEntry) : FaultEntry := { e with count := 0, asserted := false }

/-- An entry after an outcome under Q, `stamp` being the timestamp of an assertion (R110, R120). -/
def FaultEntry.afterOutcome (q : Nat) (stamp : Timestamp) : SampleOutcome → FaultEntry → FaultEntry
  | .none, e => e
  | .bad, e =>
    if e.count + 1 < q then { e with count := e.count + 1 }
    else if e.asserted then { e with count := q }
    else { count := q, asserted := true, raises := min Config.byteStop (e.raises + 1), lastRaised := some stamp }
  | .good, e => if 1 < e.count then { e with count := e.count - 1 } else e.cleared

/-- A count of 0 with a clear flag agrees under every Q above 0. -/
theorem FaultEntry.agrees_of_zero (pos : 0 < q) (count : e.count = 0) (clear : e.asserted = false) : e.Agrees q :=
  ⟨count ▸ pos.le, fun full => absurd (count.symm.trans full) pos.ne, fun _ => clear⟩

/-- A count of Q with a set flag agrees under every Q above 0. -/
theorem FaultEntry.agrees_of_full (pos : 0 < q) (count : e.count = q) (set : e.asserted = true) : e.Agrees q :=
  ⟨count.le, fun _ => set, fun zero => absurd (zero.symm.trans count) pos.ne⟩

/-- A count strictly between 0 and Q agrees with either flag. -/
theorem FaultEntry.agrees_of_between (pos : 0 < e.count) (below : e.count < q) : e.Agrees q :=
  ⟨below.le, fun full => absurd full below.ne, fun zero => absurd zero pos.ne'⟩

theorem FaultEntry.cleared_agrees (pos : 0 < q) (e : FaultEntry) : e.cleared.Agrees q := agrees_of_zero pos rfl rfl

/-- A new Q puts each count where its flag has it (R115). -/
theorem FaultEntry.requalify_agrees (pos : 0 < q) (e : FaultEntry) : (e.requalify q).Agrees q := by
  cases set : e.asserted with
  | false => exact agrees_of_zero pos (by simp [requalify, set]) set
  | true => exact agrees_of_full pos (by simp [requalify, set]) set

/-- An outcome keeps the law of its entry (R110, R118). -/
theorem FaultEntry.Agrees.afterOutcome (law : e.Agrees q) (pos : 0 < q) (stamp : Timestamp) (o : SampleOutcome) :
    (e.afterOutcome q stamp o).Agrees q := by
  have ⟨most, _, _⟩ := law
  cases o with
  | none => exact law
  | bad =>
    simp only [FaultEntry.afterOutcome]
    split
    next below => exact agrees_of_between (Nat.succ_pos _) below
    next =>
      split
      next set => exact agrees_of_full pos rfl set
      next => exact agrees_of_full pos rfl rfl
  | good =>
    simp only [FaultEntry.afterOutcome]
    split
    next above => exact agrees_of_between (Nat.sub_pos_of_lt above) (by dsimp only; omega)
    next => exact e.cleared_agrees pos

/-- The flag changes only at the step that brings the count to Q or to 0 (R110, R118). -/
theorem FaultEntry.afterOutcome_flag (q : Nat) (stamp : Timestamp) (o : SampleOutcome) (e : FaultEntry) :
    let now := e.afterOutcome q stamp o
    now.asserted = e.asserted ∨ now.asserted = true ∧ now.count = q ∨ now.asserted = false ∧ now.count = 0 := by
  cases o with
  | none => exact .inl rfl
  | bad =>
    simp only [FaultEntry.afterOutcome]
    split
    next => exact .inl rfl
    next =>
      split
      next => exact .inl rfl
      next => exact .inr (.inl ⟨rfl, rfl⟩)
  | good =>
    simp only [FaultEntry.afterOutcome]
    split
    next => exact .inl rfl
    next => exact .inr (.inr ⟨rfl, rfl⟩)

/-- A flag that was clear is set exactly at a count of Q, one that was set is clear exactly at a count of 0 (R118). -/
theorem FaultEntry.Agrees.afterOutcome_asserted (law : e.Agrees q) (pos : 0 < q) (stamp : Timestamp) (o : SampleOutcome) :
    let now := e.afterOutcome q stamp o
    (e.asserted = false → (now.asserted = true ↔ now.count = q)) ∧
      (e.asserted = true → (now.asserted = false ↔ now.count = 0)) := by
  obtain ⟨-, full, zero⟩ := law.afterOutcome pos stamp o
  refine ⟨fun clear => ⟨fun set => ?_, full⟩, fun set => ⟨fun clear => ?_, zero⟩⟩
  all_goals
    have flag := e.afterOutcome_flag q stamp o
    simp only [clear, set, Bool.true_eq_false, Bool.false_eq_true, false_and, true_and, false_or, or_false] at flag
    exact flag

/-! ### What the operations leave of the entries -/

@[simp] theorem State.lockOut_entry (s : State) (z y : Zone) (j : FaultKind) : (s.lockOut z).entry y j = s.entry y j := rfl

/-- An assertion sets the flag of its entry, counts and stamps it (R110, R120). -/
@[simp] theorem State.assertFault_entry (s : State) (z y : Zone) (k j : FaultKind) (detail : Nat) :
    (s.assertFault z k detail).entry y j =
      if y = z ∧ j = k then
        { s.entry z k with
          asserted := true, raises := min Config.byteStop ((s.entry z k).raises + 1), lastRaised := some s.now }
      else s.entry y j := by
  simp [State.assertFault]

@[simp] theorem State.setCount_entry (s : State) (z y : Zone) (k j : FaultKind) (n : Nat) :
    (s.setCount z k n).entry y j = if y = z ∧ j = k then { s.entry z k with count := n } else s.entry y j :=
  s.entry_setEntry z y k j _

@[simp] theorem State.setCount_now (s : State) (z : Zone) (k : FaultKind) (n : Nat) : (s.setCount z k n).now = s.now := rfl

/-- The entry of an outcome moves by it, the others stay (R110). -/
theorem State.qualify_entry (s : State) (z : Zone) (k : FaultKind) (o : SampleOutcome) (detail : Nat) (y : Zone)
    (j : FaultKind) :
    (s.qualify z k o detail).entry y j =
      if y = z ∧ j = k then (s.entry z k).afterOutcome s.monitor.limit s.now o else s.entry y j := by
  cases o with
  | none =>
    split
    next here =>
      obtain ⟨rfl, rfl⟩ := here
      rfl
    next => rfl
  | bad =>
    simp only [State.qualify, FaultEntry.afterOutcome]
    split
    next => exact s.setCount_entry ..
    next =>
      split
      next => exact s.setCount_entry ..
      next =>
        simp only [apply_ite (State.entry · y j), State.lockOut_entry, ite_self, State.assertFault_entry,
          State.setCount_entry]
        split <;> simp
  | good =>
    simp only [State.qualify, FaultEntry.afterOutcome]
    split
    next => simp
    next => split <;> simp [FaultEntry.cleared]

@[simp] theorem State.qualify_limit (s : State) (z : Zone) (k : FaultKind) (o : SampleOutcome) (detail : Nat) :
    (s.qualify z k o detail).monitor.limit = s.monitor.limit := by
  cases o <;> simp only [State.qualify] <;> repeat' split
  all_goals rfl

theorem State.rearmKind_entry (s : State) (z y : Zone) (k j : FaultKind) :
    (s.rearmKind z k).entry y j = if y = z ∧ j = k then (s.entry y j).cleared else s.entry y j := by
  by_cases here : y = z ∧ j = k
  · obtain ⟨rfl, rfl⟩ := here
    simp only [State.rearmKind]
    split <;> simp [FaultEntry.cleared]
  · simp only [State.rearmKind]
    split <;> simp [here]

/-- A rearm's kinds one after another clear their entries of the zone (R116). -/
theorem foldl_rearmKind_entry (ks : List FaultKind) (s : State) (z y : Zone) (j : FaultKind) :
    (ks.foldl (fun u k => u.rearmKind z k) s).entry y j =
      if y = z ∧ j ∈ ks then (s.entry y j).cleared else s.entry y j := by
  induction ks generalizing s with
  | nil => simp
  | cons k ks ih =>
    simp only [List.foldl_cons, ih, State.rearmKind_entry, List.mem_cons]
    by_cases hz : y = z <;> by_cases hk : j = k <;> simp [hz, hk, FaultEntry.cleared]

@[simp] theorem State.endLockout_entry (s : State) (z y : Zone) (j : FaultKind) :
    (s.endLockout z).entry y j = s.entry y j := rfl

@[simp] theorem State.endLockout_limit (s : State) (z : Zone) : (s.endLockout z).monitor.limit = s.monitor.limit := rfl

/-- A rearm clears every entry of its zone (R116). -/
theorem State.rearm_entry (s : State) (z y : Zone) (j : FaultKind) :
    (s.rearm z).entry y j = if y = z then (s.entry y j).cleared else s.entry y j := by
  have kinds := foldl_rearmKind_entry allKinds s z y j
  simp only [mem_allKinds, and_true] at kinds
  simpa only [State.rearm, apply_ite (State.entry · y j), State.endLockout_entry, ite_self] using kinds

@[simp] theorem State.rearm_limit (s : State) (z : Zone) : (s.rearm z).monitor.limit = s.monitor.limit := by
  simp only [State.rearm, apply_ite (fun u : State => u.monitor.limit), State.endLockout_limit, ite_self, allKinds,
    List.foldl, State.rearmKind_monitor]

/-- A FAULT_SETUP forms the counts afresh under a new Q (R115). -/
theorem State.setFaultSetup_entry (s : State) (mask : ZoneMask) (a : FaultSetupArgs) (q : Nat) (z : Zone) (k : FaultKind) :
    (s.setFaultSetup mask a q).entry z k =
      if q = s.monitor.limit then s.entry z k else (s.entry z k).requalify q := by
  have view := congrArg (fun v => v.entries.get k) (s.setFaultSetup_zoneView mask a q z)
  refine view.trans ?_
  dsimp only
  split <;> simp [State.entry]

@[simp] theorem State.setFaultSetup_limit (s : State) (mask : ZoneMask) (a : FaultSetupArgs) (q : Nat) :
    (s.setFaultSetup mask a q).monitor.limit = q := by
  unfold State.setFaultSetup
  dsimp only
  split <;> rfl

@[simp] theorem emptyEntries_get (k : FaultKind) : emptyEntries.get k = emptyEntry := by cases k <;> rfl

/-- A zone record leaves the entries of every zone but one that it uninstalls (R90, R117, R120). -/
theorem State.setZoneRecord_entry (s : State) (z : Zone) (rec : ZoneRecord) (y : Zone) (k : FaultKind) :
    (s.setZoneRecord z rec).entry y k = s.entry y k ∨ (s.setZoneRecord z rec).entry y k = emptyEntry := by
  unfold State.setZoneRecord
  split
  next => exact .inl rfl
  next => by_cases hy : y = z <;> simp [State.entry, State.clearZone, State.modMonitor, State.modChannel, hy]
  next => exact .inl rfl

@[simp] theorem State.setZoneRecord_limit (s : State) (z : Zone) (rec : ZoneRecord) :
    (s.setZoneRecord z rec).monitor.limit = s.monitor.limit := by
  unfold State.setZoneRecord
  split <;> rfl

/-- The end of a main reset empties the Fault Table (R118, R165). -/
theorem mainResetEnd_entry {a o : Fin 4} (under : s.supply.inReset = true) (supply : s.supply.supplyLow = false)
    (pin : s.supply.pinLow = false) (h : exec (.mainResetEnd a o) s = .next t) : t.entry z k = emptyEntry := by
  obtain ⟨killed, view⟩ := mainResetEnd_zoneView under supply pin h z
  exact (congrArg (fun v => v.entries.get k) view).trans (emptyEntries_get k)

/-- The end of a main reset gives Q its reset value (R103, R165). -/
theorem mainResetEnd_limit {a o : Fin 4} (under : s.supply.inReset = true) (supply : s.supply.supplyLow = false)
    (pin : s.supply.pinLow = false) (h : exec (.mainResetEnd a o) s = .next t) : t.monitor.limit = 6 := by
  have report (u : State) (lost : Bool) : (u.reportLoss lost).monitor = u.monitor := by cases lost <;> rfl
  cases h
  rw [if_pos (by simp [under, supply, pin]), State.evaluate_monitor, report]
  rfl

/-- An uninstallation empties the entries of its zone, and no other move of an uninstalled zone fills one (R117, R120). -/
theorem ZoneMove.entry_of_off {v w : ZoneView} (h : ZoneMove c z v w)
    (law : v.installed ∨ v.entries.get k = emptyEntry) : w.installed ∨ w.entries.get k = emptyEntry := by
  cases h with
  | requalified q => exact law.imp_right fun empty => by rw [KindBank.get_map, empty]; rfl
  | recorded rec same => exact law.imp_left same.trans
  | counted on => exact .inl on
  | periodEnd =>
    obtain ⟨record, -⟩ := v.channel.atPeriodEnd_fields _ _
    exact law.imp_left (congrArg ZoneRecord.installed record).trans
  | installed rec m off on => exact .inl on
  | uninstalled | resetEnded => exact .inr (emptyEntries_get k)
  | _ => exact law

/-! ### The commands that reach Q and the Fault Table -/

/-- What R118 speaks of: Q and the Fault Table. -/
def State.qualification (s : State) : Nat × ZoneBank (KindBank FaultEntry) := (s.monitor.limit, s.recorder.table)

/-- The commands that can change Q or the Fault Table (R118, R120). -/
def MovesCounts : Instr → Bool
  | .samplePoint .. | .conversionCompletion _ | .faultSetup _ | .zoneRearm _ | .zoneSetup _ | .mainResetEnd .. => true
  | _ => false

theorem entry_eq_of_qualification (h : t.qualification = s.qualification) : t.entry z k = s.entry z k :=
  congrArg (fun x => (x.2.get z).get k) h

theorem QualificationLaw.of_same (h : t.qualification = s.qualification) (law : QualificationLaw s) : QualificationLaw t := by
  rw [qualificationLaw_iff] at law ⊢
  simp only [entry_eq_of_qualification h, show t.monitor.limit = s.monitor.limit from congrArg Prod.fst h]
  exact law

/-- With the Monitor and every zone as before, so are Q and the Fault Table. -/
theorem qualification_of_views (monitor : t.monitor = s.monitor) (view : ∀ z, t.zoneView z = s.zoneView z) :
    t.qualification = s.qualification :=
  Prod.ext (congrArg Monitor.limit monitor) (ZoneBank.ext_get _ _ fun z => congrArg ZoneView.entries (view z))

/-- A service leaves Q and the Fault Table if its rule does. -/
theorem qualification_serve {p : Port} {row : CatalogueRow} {body : Request → State → State × Response}
    (own : ∀ r, (body r s).1.qualification = s.qualification) : (s.serve p row body).qualification = s.qualification :=
  serve_keeps (P := fun u => u.qualification = s.qualification) (fun _ _ same => same) rfl own

@[simp] theorem State.report_qualification (s : State) (r : Report) : (s.report r).qualification = s.qualification :=
  Prod.ext rfl (Recorder.append_table ..)

@[simp] theorem State.withDrive_qualification (s : State) (d : Drive) : (s.withDrive d).qualification = s.qualification := rfl

@[simp] theorem State.setAuthority_qualification (s : State) (a : Authority) :
    (s.setAuthority a).qualification = s.qualification := by
  rw [State.setAuthority_eq]
  exact Prod.ext rfl (Recorder.appendAll_table ..)

@[simp] theorem State.takeEblank_qualification (s : State) (high : Bool) :
    (s.takeEblank high).qualification = s.qualification := s.setAuthority_qualification _

@[simp] theorem State.setGrants_qualification (s : State) (g : GrantMap) :
    (s.setGrants g).1.qualification = s.qualification := by
  rw [State.setGrants_eq]
  rfl

@[simp] theorem State.endSyncLost_qualification (s : State) : s.endSyncLost.qualification = s.qualification := by
  unfold State.endSyncLost
  split
  · exact State.report_qualification ..
  · rfl

@[simp] theorem State.syncEffects_qualification (s : State) : s.syncEffects.qualification = s.qualification := by
  unfold State.syncEffects
  split
  · exact s.endSyncLost_qualification
  · rfl

@[simp] theorem State.takeFsync_qualification (s : State) (high : Bool) :
    (s.takeFsync high).qualification = s.qualification := by
  unfold State.takeFsync
  repeat' ((try dsimp only); split)
  all_goals simp

@[simp] theorem State.setDriveTiming_qualification (s : State) (f : BaseFrequency) (e : EdgeMode) (m : SwapMode) :
    (s.setDriveTiming f e m).qualification = s.qualification := by
  simp only [State.setDriveTiming, apply_ite State.qualification, State.endSyncLost_qualification,
    State.withDrive_qualification, ite_self]

/-- Every command but six leaves Q and the Fault Table (R118). -/
theorem exec_qualification (other : MovesCounts c = false) (h : exec c s = .next t) : t.qualification = s.qualification := by
  cases c with
  | samplePoint | conversionCompletion | faultSetup | zoneRearm | zoneSetup | mainResetEnd => cases other
  | resolveExpiry | periodEnd z =>
    cases h
    split <;> rfl
  | eblankActiveEdge | eblankInactiveEdge | killStartUpTake high | fsyncLevelTaken high | syncEvent high =>
    cases h
    repeat' split
    all_goals simp
  | deviceReset p | brownOut | resetNAssert =>
    cases h
    repeat' split
    all_goals rfl
  -- the requests that only read
  | status p | clockRead p | epochRead p | curveRead p | sensorRead p | zoneRead p | gainRead p | levelRead p | ovrList p
  | authRead p | grantRead p | faultRead p => cases h; exact qualification_serve fun _ => rfl
  -- the requests that reach a zone's outputs, the settings or the grants
  | killSetup p | killRelease p | driveSetup p | grantSet p =>
    cases h
    refine qualification_serve fun r => ?_
    repeat' ((try dsimp only); split)
    all_goals simp
  | gainWrite p | zoneMode p | authSetup p =>
    cases h
    refine qualification_serve fun r => ?_
    repeat' ((try dsimp only); split)
    all_goals rfl
  -- the requests that leave the Monitor and every zone
  | clockSet p | epochWrite p | epochErase p | curveWrite p | sensorSetup p | ovrPush p | ovrRemove p | ovrClear p
  | journalRead p | attnRead p | attnMask p =>
    cases h
    refine qualification_serve fun r => qualification_of_views ?_ fun z => ?_
    all_goals
      repeat' ((try dsimp only); split)
      all_goals simp
  -- the events that leave them
  | gateCompletion e0 e1 e2 | secondRollover | timebaseFailure p | timebaseFirstEdge | backupStorageDisturbance i contents
  | uptimeSecond mv first | overrideExpired | presenceTimeout | countClockSwitch | syncWatchExpiry | writeAddress p addr
  | dataByte p b | requestTaken w | responseRead p addr | unknownCode p | mainSupplyRise | resetNRelease
  | retentionLoss =>
    cases h
    refine qualification_of_views ?_ fun z => ?_
    all_goals
      repeat' ((try dsimp only); split)
      all_goals simp

end Sys2Proof.Machine
end

section
/-! PROOF. O5: the six commands that reach Q and the Fault Table keep the law of the qualification counts (R118). -/

namespace Sys2Proof.Machine

variable {s t : State} {z : Zone} {k : FaultKind} {p : Port}

/-! ### What the operations keep of the law -/

/-- A law kept at each entry is kept (R118). -/
theorem QualificationLaw.of_entries (law : QualificationLaw s) (limit : t.monitor.limit = s.monitor.limit)
    (entry : ∀ z k, (s.entry z k).Agrees s.monitor.limit → (t.entry z k).Agrees s.monitor.limit) : QualificationLaw t := by
  rw [qualificationLaw_iff] at law ⊢
  rw [limit]
  obtain ⟨low, high, all⟩ := law
  exact ⟨low, high, fun z k => entry z k (all z k)⟩

theorem QualificationLaw.limit_pos (law : QualificationLaw s) : 0 < s.monitor.limit := Nat.lt_of_lt_of_le Nat.two_pos law.1

theorem QualificationLaw.agrees (law : QualificationLaw s) (z : Zone) (k : FaultKind) :
    (s.entry z k).Agrees s.monitor.limit := ((qualificationLaw_iff s).1 law).2.2 z k

theorem emptyEntry_agrees {q : Nat} (pos : 0 < q) : emptyEntry.Agrees q := FaultEntry.agrees_of_zero pos rfl rfl

theorem QualificationLaw.qualify (law : QualificationLaw s) (z : Zone) (k : FaultKind) (o : SampleOutcome) (detail : Nat) :
    QualificationLaw (s.qualify z k o detail) :=
  law.of_entries (s.qualify_limit z k o detail) fun y j agrees => by
    rw [State.qualify_entry]
    split
    · exact (law.agrees z k).afterOutcome law.limit_pos _ _
    · exact agrees

theorem QualificationLaw.sampleOn (law : QualificationLaw s) (z : Zone) (at_ : Nat) (off : Option Nat) (current : Nat) :
    QualificationLaw (s.sampleOn z at_ off current) := by
  have point (d : Drive) (f : MonitorZone → MonitorZone) : QualificationLaw ((s.modMonitor z f).withDrive d) := law
  unfold State.sampleOn
  dsimp only
  split
  · exact point _ _
  · exact ((point _ _).qualify ..).qualify ..

theorem QualificationLaw.sampleOff (law : QualificationLaw s) (z : Zone) (at_ current : Nat) :
    QualificationLaw (s.sampleOff z at_ current) := by
  have point (d : Drive) (f : MonitorZone → MonitorZone) : QualificationLaw ((s.modMonitor z f).withDrive d) := law
  exact (point _ _).qualify ..

theorem QualificationLaw.convert (law : QualificationLaw s) (z : Zone) (code : Nat) :
    QualificationLaw (s.convert z code) := by
  have stored (f : MonitorZone → MonitorZone) : QualificationLaw (s.modMonitor z f) := law
  unfold State.convert
  dsimp only
  split
  · exact stored _
  · exact ((stored _).qualify ..).qualify ..

theorem QualificationLaw.rearm (law : QualificationLaw s) (z : Zone) : QualificationLaw (s.rearm z) :=
  law.of_entries (s.rearm_limit z) fun y j agrees => by
    rw [State.rearm_entry]
    split
    · exact FaultEntry.cleared_agrees law.limit_pos _
    · exact agrees

theorem QualificationLaw.setZoneRecord (law : QualificationLaw s) (z : Zone) (rec : ZoneRecord) :
    QualificationLaw (s.setZoneRecord z rec) :=
  law.of_entries (s.setZoneRecord_limit z rec) fun y j agrees => by
    rcases s.setZoneRecord_entry z rec y j with same | empty
    · exact same ▸ agrees
    · exact empty ▸ emptyEntry_agrees law.limit_pos

theorem QualificationLaw.setFaultSetup (law : QualificationLaw s) (mask : ZoneMask) (a : FaultSetupArgs) {q : Nat}
    (low : 2 ≤ q) (high : q ≤ 15) : QualificationLaw (s.setFaultSetup mask a q) := by
  rw [qualificationLaw_iff, State.setFaultSetup_limit]
  refine ⟨low, high, fun z k => ?_⟩
  rw [State.setFaultSetup_entry]
  split
  next same => exact same ▸ law.agrees z k
  next => exact FaultEntry.requalify_agrees (by omega) _

/-- The end of a main reset establishes the law (R118). -/
theorem mainResetEnd_qualificationLaw {a o : Fin 4} (under : s.supply.inReset = true) (supply : s.supply.supplyLow = false)
    (pin : s.supply.pinLow = false) (h : exec (.mainResetEnd a o) s = .next t) : QualificationLaw t := by
  rw [qualificationLaw_iff, mainResetEnd_limit under supply pin h]
  refine ⟨by decide, by decide, fun z k => ?_⟩
  rw [mainResetEnd_entry under supply pin h]
  exact emptyEntry_agrees (by decide)

/-! ### What the commands keep and leave -/

/-- A service keeps the law if its rule does. -/
theorem QualificationLaw.serve {row : CatalogueRow} {body : Request → State → State × Response} (law : QualificationLaw s)
    (own : ∀ r, QualificationLaw (body r s).1) : QualificationLaw (s.serve p row body) :=
  serve_keeps (P := fun u => QualificationLaw u) (fun _ _ kept => kept) law own

/-- Every command keeps the law (R118). -/
theorem exec_qualificationLaw {c : Instr} (law : QualificationLaw s) (h : exec c s = .next t) : QualificationLaw t := by
  cases other : MovesCounts c with
  | false => exact law.of_same (exec_qualification other h)
  | true =>
    cases c with
    | samplePoint z pt current =>
      cases h
      repeat' split
      · exact law.sampleOn ..
      · exact law.sampleOff ..
      · exact law
      · exact law
    | conversionCompletion code =>
      cases h
      repeat' split
      · exact law
      · exact law
      · exact law.convert ..
      · exact law
    | faultSetup p =>
      cases h
      refine law.serve fun r => ?_
      repeat' ((try dsimp only); split)
      · exact law
      · exact law
      · exact law.setFaultSetup _ _ (Nat.le_max_left ..) (by unfold clamp; omega)
    | zoneRearm p =>
      cases h
      refine law.serve fun r => ?_
      repeat' ((try dsimp only); split)
      · exact law
      · exact law.rearm _
      · exact law
    | zoneSetup p =>
      cases h
      refine law.serve fun r => ?_
      split
      · exact law.setZoneRecord ..
      · exact law
    | mainResetEnd a o =>
      by_cases due : s.supply.inReset = true ∧ s.supply.supplyLow = false ∧ s.supply.pinLow = false
      · obtain ⟨under, supply, pin⟩ := due
        exact mainResetEnd_qualificationLaw under supply pin h
      · cases h
        rw [if_neg (by simpa [and_assoc] using due)]
        exact law
    | _ => cases other

/-- A FAULT_SETUP that changes Q forms every count afresh (R115). -/
theorem faultSetup_requalifies (h : exec (.faultSetup p) s = .next t) (changed : t.monitor.limit ≠ s.monitor.limit) :
    t.entry z k = (s.entry z k).requalify t.monitor.limit := by
  cases h
  refine serve_keeps
    (P := fun u => u.monitor.limit ≠ s.monitor.limit → u.entry z k = (s.entry z k).requalify u.monitor.limit)
    (fun _ _ own => own) (fun changed => absurd rfl changed) (fun r => ?_) changed
  repeat' ((try dsimp only); split)
  · exact fun changed => absurd rfl changed
  · exact fun changed => absurd rfl changed
  · intro changed
    rw [State.setFaultSetup_limit] at changed ⊢
    rw [State.setFaultSetup_entry, if_neg changed]

/-- A ZONE_REARM of an installed zone clears its entries (R116). -/
theorem zoneRearm_entry {r : Request} (admitted : Admitted s p rowZoneRearm r) (zone : r.u1 0 = z.val)
    (on : s.installed z = true) (h : exec (.zoneRearm p) s = .next t) : t.entry z k = (s.entry z k).cleared := by
  cases h
  rw [serve_admitted admitted]
  simp only [Request.zone_some zone, on, if_true]
  exact (s.rearm_entry z z k).trans (if_pos rfl)

/-- Settles O5: an outcome, a rearm, an uninstallation, a new Q and a main reset keep the law entry by entry, and no other command
reaches Q or the Fault Table. -/
theorem qualificationCountsAgreeWithAsserts : Obligations.QualificationCountsAgreeWithAsserts := by
  refine ⟨fun s t law h => ?law, fun s z k o detail law => ?outcome, fun s t p z k h changed => ?requalified,
    fun s t p r z k admitted zone on h => ?rearmed, fun c s t z k h on off => ?uninstalled,
    fun s t a o under supply pin h z k => ?reset, fun s t z pt current locked h => ?sample,
    fun s t code c scan locked h => ?conversion⟩
  case law =>
    rcases step_cases h with rfl | ⟨c, rest, -, run⟩
    · exact law
    · have before : QualificationLaw (s.withPending rest) := law
      exact exec_qualificationLaw before run
  case outcome =>
    have agrees := law.agrees z k
    dsimp only
    rw [State.qualify_entry, if_pos ⟨rfl, rfl⟩]
    obtain ⟨most, -, -⟩ := agrees.afterOutcome law.limit_pos s.now o
    exact ⟨most, agrees.afterOutcome_asserted law.limit_pos s.now o⟩
  case requalified =>
    rw [faultSetup_requalifies h changed]
    exact ⟨rfl, rfl⟩
  case rearmed =>
    rw [zoneRearm_entry admitted zone on h]
    exact ⟨rfl, rfl⟩
  case uninstalled =>
    have empty : t.entry z k = emptyEntry :=
      (ZoneChange.keeps (P := fun v => v.installed ∨ v.entries.get k = emptyEntry) (exec_zones h z) (.inl on)
        fun _ _ => ZoneMove.entry_of_off).resolve_left fun still => Bool.false_ne_true (off.symm.trans still)
    rw [empty]
    exact ⟨rfl, rfl⟩
  case reset =>
    rw [mainResetEnd_entry under supply pin h]
    exact ⟨rfl, rfl⟩
  case sample =>
    cases h
    rw [if_neg (by simp [locked])]
  case conversion =>
    cases h
    simp only [scan, State.convert, locked, if_true]
    repeat' split
    all_goals rfl

end Sys2Proof.Machine
end

section
/-! PROOF. O4 and O39: what an append counts on each port (R127), the ways in which a command can change the Fault Recorder, said
once for all commands, and that each of them keeps the journal's law (R131). -/

namespace Sys2Proof.Machine

variable {c : Instr} {s t : State} {r₀ r : Recorder} {x : JournalRecord} {p : Port}

/-! ### An append's counts, port by port (R127) -/

/-- An append steps an unread count up to the 48 records that the journal can hold. -/
theorem Recorder.append_unread (r : Recorder) (x : JournalRecord) (p : Port) :
    (r.append x).unread.get p =
      if r.journal.length < 48 ∨ r.unread.get p < 48 then r.unread.get p + 1 else r.unread.get p := by
  by_cases room : r.journal.length < 48
  · simp [r.append_room x room, room]
  · simp [r.append_full x (Nat.not_lt.mp room), room]

/-- An append that drops a record unread on a port steps that port's missed count, which stops at 255. -/
theorem Recorder.append_missed (r : Recorder) (x : JournalRecord) (p : Port) :
    (r.append x).missed.get p =
      if r.journal.length < 48 ∨ r.unread.get p < 48 then r.missed.get p else min 255 (r.missed.get p + 1) := by
  by_cases room : r.journal.length < 48
  · simp [r.append_room x room, room]
  · rw [r.append_full x (Nat.not_lt.mp room)]
    cases p <;> simp [room, PortPair.get]

/-- An append adds to the records held until there are 48. -/
theorem Recorder.append_length (r : Recorder) (x : JournalRecord) :
    (r.append x).journal.length = if r.journal.length < 48 then r.journal.length + 1 else r.journal.length := by
  split
  next room => simp [r.append_room x room]
  next full => simp [r.append_full x (Nat.not_lt.mp full)]; omega

/-- Settles O39: the append's two cases, the full journal's split by each port's unread count. -/
theorem appendKeepsTheNewestAndCountsForBothPorts : Obligations.AppendKeepsTheNewestAndCountsForBothPorts := by
  refine ⟨fun r x => ⟨r.append_table x, r.append_conditions x, fun room => ⟨?_, fun p => ?_⟩,
    fun full => ⟨?_, fun p => ⟨fun below => ?_, fun at_ => ?_⟩⟩⟩, fun s => ⟨rfl, fun p => by simp [State.pendingCause]⟩⟩
  · rw [r.append_room x room]
  · simp [r.append_unread, r.append_missed, room]
  · rw [r.append_full x full.ge, List.drop_one]
  · simp [r.append_unread, r.append_missed, below]
  · simp [r.append_unread, r.append_missed, full, at_]

/-! ### The ways in which a command can change the Fault Recorder -/

/-- The ways in which a part of a command `c` can change the Fault Recorder. -/
inductive RecorderMove (c : Instr) (r : Recorder) : Recorder → Prop
  /-- R127: a record is appended. -/
  | appended (x : JournalRecord) : RecorderMove c r (r.append x)
  /-- R122: a device condition is set or cleared. -/
  | conditions (k : Conditions) : RecorderMove c r { r with conditions := k }
  /-- R110, R115, R116, R120: Fault Table entries change. -/
  | table (es : ZoneBank (KindBank FaultEntry)) : RecorderMove c r { r with table := es }
  /-- R128: a JOURNAL_READ takes the oldest unread records of its port. -/
  | read (p : Port) (own : c = .journalRead p) : RecorderMove c r (r.markRead p)
  /-- R165: a main reset ends. -/
  | reset (clockInvalid lost : Bool) (own : ∃ a o, c = .mainResetEnd a o) :
      RecorderMove c r (recorderAfterReset clockInvalid lost)

/-- A command `c` changes the Recorder by moves one after another. -/
abbrev RecorderChange (c : Instr) : Recorder → Recorder → Prop := Relation.ReflTransGen (RecorderMove c)

theorem RecorderChange.of_eq (h : t.recorder = r₀) : RecorderChange c r₀ t.recorder := h ▸ .refl

theorem RecorderChange.append (h : RecorderChange c r₀ r) : RecorderChange c r₀ (r.append x) := h.tail (.appended x)

theorem RecorderChange.appendAll (h : RecorderChange c r₀ r) (xs : List JournalRecord) :
    RecorderChange c r₀ (r.appendAll xs) := by
  induction xs generalizing r with
  | nil => exact h
  | cons x xs ih => exact ih h.append

theorem RecorderChange.conditions (h : RecorderChange c r₀ r) (k : Conditions) :
    RecorderChange c r₀ { r with conditions := k } := h.tail (.conditions k)

theorem RecorderChange.table (h : RecorderChange c r₀ r) (es : ZoneBank (KindBank FaultEntry)) :
    RecorderChange c r₀ { r with table := es } := h.tail (.table es)

/-- A service changes the Recorder as its rule does. -/
theorem RecorderChange.serve {row : CatalogueRow} {body : Request → State → State × Response}
    (own : ∀ r, RecorderChange c s.recorder (body r s).1.recorder) :
    RecorderChange c s.recorder (s.serve p row body).recorder :=
  serve_keeps (P := fun u => RecorderChange c s.recorder u.recorder) (fun _ _ moved => moved) .refl own

/-! ### What the shared operations do to the Recorder -/

section

variable (h : RecorderChange c r₀ s.recorder)

include h

theorem RecorderChange.report (x : Report) : RecorderChange c r₀ (s.report x).recorder := h.append

/-- A condition changes and its change is reported (R122). -/
theorem RecorderChange.reportCondition (f : Conditions → Conditions) (x : Report) :
    RecorderChange c r₀ ((s.modConditions f).report x).recorder := (h.conditions _).append

theorem RecorderChange.setEntry (z : Zone) (k : FaultKind) (e : FaultEntry) :
    RecorderChange c r₀ (s.setEntry z k e).recorder := h.table _

theorem RecorderChange.setAuthority (a : Authority) : RecorderChange c r₀ (s.setAuthority a).recorder := by
  rw [State.setAuthority_eq]
  exact (h.conditions _).appendAll _

theorem RecorderChange.authorityHeard : RecorderChange c r₀ s.authorityHeard.recorder := by
  unfold State.authorityHeard
  dsimp only
  split
  · exact h
  · exact h.conditions _
  · exact (h.conditions _).append

theorem RecorderChange.presenceRunOut : RecorderChange c r₀ s.presenceRunOut.recorder := by
  unfold State.presenceRunOut
  split
  · exact (h.conditions _).append
  · exact h

theorem RecorderChange.authoritySecond : RecorderChange c r₀ s.authoritySecond.recorder := by
  have counted (a : Authority) : RecorderChange c r₀ (s.withAuthority a).expireOverrides.recorder := by simpa using h
  unfold State.authoritySecond
  dsimp only
  split
  · exact (counted _).presenceRunOut
  · exact counted _

theorem RecorderChange.batteryAtSecond (mv : Nat) : RecorderChange c r₀ (s.batteryAtSecond mv).recorder := by
  unfold State.batteryAtSecond State.measureBattery
  dsimp only
  split
  · split
    · exact h
    · exact (h.conditions _).append
  · exact h

theorem RecorderChange.reportSensor (i : Fin 3) (before after : SensorReason) :
    RecorderChange c r₀ (s.reportSensor i before after).recorder := by
  unfold State.reportSensor
  dsimp only
  split
  · exact h
  · have cleared : RecorderChange c r₀
        (if before.reported then (s.setSensorCondition i false).report (sensorReport i .cleared before)
          else s).recorder := by
      split
      · exact h.reportCondition _ _
      · exact h
    split
    · exact cleared.reportCondition _ _
    · exact cleared

theorem RecorderChange.evaluate : RecorderChange c r₀ s.evaluate.recorder := by
  unfold State.evaluate
  dsimp only
  split
  · split
    · rw [State.reportParity_eq]
      exact h.appendAll _
    · exact h
  · exact h

theorem RecorderChange.secondRollover : RecorderChange c r₀ s.secondRollover.recorder := by
  have advanced (k : ClockUnit) : RecorderChange c r₀ (s.withClock k).recorder := h
  unfold State.secondRollover
  dsimp only
  split
  · exact (advanced _).evaluate
  · exact advanced _

theorem RecorderChange.setClock (time : CivilTime) : RecorderChange c r₀ (s.setClock time).recorder := by
  have loaded (k : ClockUnit) : RecorderChange c r₀ (s.withClock k).recorder := h
  unfold State.setClock
  dsimp only
  split
  · exact (loaded _).evaluate
  · exact ((loaded _).reportCondition _ _).evaluate

theorem RecorderChange.storeEpoch (i : Fin 24) (f : EpochFields) : RecorderChange c r₀ (s.storeEpoch i f).recorder :=
  RecorderChange.evaluate h

theorem RecorderChange.endSyncLost : RecorderChange c r₀ s.endSyncLost.recorder := by
  rw [State.endSyncLost_eq]
  dsimp only
  split
  · exact (h.conditions _).append
  · exact h

theorem RecorderChange.syncEffects : RecorderChange c r₀ s.syncEffects.recorder := by
  unfold State.syncEffects
  dsimp only
  split
  · exact h.endSyncLost
  · exact h

theorem RecorderChange.takeFsync (high : Bool) : RecorderChange c r₀ (s.takeFsync high).recorder := by
  have taken (d : Drive) : RecorderChange c r₀ (s.withDrive d).recorder := h
  unfold State.takeFsync
  dsimp only
  split
  · exact h
  · split
    · exact (taken _).syncEffects
    · exact h

theorem RecorderChange.setDriveTiming (f : BaseFrequency) (e : EdgeMode) (m : SwapMode) :
    RecorderChange c r₀ (s.setDriveTiming f e m).recorder := by
  have timed (d : Drive) : RecorderChange c r₀ (s.withDrive d).recorder := h
  unfold State.setDriveTiming
  extract_lets
  split
  · exact h
  · exact (timed _).endSyncLost

theorem RecorderChange.assertFault (z : Zone) (k : FaultKind) (detail : Nat) :
    RecorderChange c r₀ (s.assertFault z k detail).recorder := (h.setEntry ..).append

theorem RecorderChange.qualify (z : Zone) (k : FaultKind) (o : SampleOutcome) (detail : Nat) :
    RecorderChange c r₀ (s.qualify z k o detail).recorder := by
  unfold State.qualify
  dsimp only
  split
  · exact h
  · split
    · exact h.setEntry ..
    · split
      · exact h.setEntry ..
      · have asserted := RecorderChange.assertFault (h.setEntry z k { s.entry z k with count := s.monitor.limit }) z k detail
        split <;> exact asserted
  · split
    · exact h.setEntry ..
    · split
      · exact (h.setEntry ..).append
      · exact h.setEntry ..

theorem RecorderChange.sampleOn (z : Zone) (at_ : Nat) (off : Option Nat) (current : Nat) :
    RecorderChange c r₀ (s.sampleOn z at_ off current).recorder := by
  have point (f : MonitorZone → MonitorZone) (d : Drive) :
      RecorderChange c r₀ ((s.modMonitor z f).withDrive d).recorder := h
  unfold State.sampleOn
  dsimp only
  split
  · exact h
  · exact ((point _ _).qualify ..).qualify ..

theorem RecorderChange.sampleOff (z : Zone) (at_ current : Nat) :
    RecorderChange c r₀ (s.sampleOff z at_ current).recorder := by
  have point (f : MonitorZone → MonitorZone) (d : Drive) :
      RecorderChange c r₀ ((s.modMonitor z f).withDrive d).recorder := h
  exact (point _ _).qualify ..

theorem RecorderChange.convert (z : Zone) (code : Nat) : RecorderChange c r₀ (s.convert z code).recorder := by
  have stored (f : MonitorZone → MonitorZone) : RecorderChange c r₀ (s.modMonitor z f).recorder := h
  unfold State.convert
  dsimp only
  split
  · exact h
  · exact ((stored _).qualify ..).qualify ..

theorem RecorderChange.rearmKind (z : Zone) (k : FaultKind) : RecorderChange c r₀ (s.rearmKind z k).recorder := by
  unfold State.rearmKind
  dsimp only
  split
  · exact (h.setEntry ..).append
  · exact h.setEntry ..

theorem RecorderChange.rearm (z : Zone) : RecorderChange c r₀ (s.rearm z).recorder := by
  have kinds (ks : List FaultKind) : RecorderChange c r₀ (ks.foldl (fun u k => u.rearmKind z k) s).recorder := by
    induction ks generalizing s with
    | nil => exact h
    | cons k ks ih => exact ih (h.rearmKind z k)
  unfold State.rearm
  dsimp only
  split <;> exact kinds allKinds

theorem RecorderChange.setFaultSetup (mask : ZoneMask) (a : FaultSetupArgs) (q : Nat) :
    RecorderChange c r₀ (s.setFaultSetup mask a q).recorder := by
  unfold State.setFaultSetup
  dsimp only
  split
  · exact h
  · exact h.table _

theorem RecorderChange.setZoneRecord (z : Zone) (rec : ZoneRecord) :
    RecorderChange c r₀ (s.setZoneRecord z rec).recorder := by
  unfold State.setZoneRecord
  split
  · exact h
  · exact h.table _
  · exact h

theorem RecorderChange.take (p : Port) (q : Request) : RecorderChange c r₀ (s.take p q).recorder := by
  have held (f : LinkPort → LinkPort) : RecorderChange c r₀ (s.modPort p f).recorder := h
  unfold State.take
  dsimp only
  rw [State.handOver_recorder]
  cases p with
  | a => exact (held _).authorityHeard
  | o => exact h

theorem RecorderChange.endWrite (p : Port) : RecorderChange c r₀ (s.endWrite p).recorder := by
  unfold State.endWrite
  split
  · exact h
  · exact h
  · exact h.take _ _

end

/-- The end of a main reset empties the Recorder, and appends follow (R130, R165). -/
theorem mainResetEnd_recorderChange {a o : Fin 4} (h : exec (.mainResetEnd a o) s = .next t) :
    RecorderChange (.mainResetEnd a o) s.recorder t.recorder := by
  cases h
  dsimp only
  split
  · have emptied : RecorderChange (.mainResetEnd a o) s.recorder
        (s.restoreBackup.resetMain s.supply.retentionLost a o).recorder := .single (.reset _ _ ⟨a, o, rfl⟩)
    have loss : RecorderChange (.mainResetEnd a o) s.recorder
        ((s.restoreBackup.resetMain s.supply.retentionLost a o).reportLoss s.supply.retentionLost).recorder := by
      unfold State.reportLoss
      split
      · exact emptied.report _
      · exact emptied
    exact loss.evaluate
  · exact .refl

/-- Every command changes the Recorder in the ways of `RecorderMove` alone. -/
theorem exec_recorder (h : exec c s = .next t) : RecorderChange c s.recorder t.recorder := by
  have start : RecorderChange c s.recorder s.recorder := .refl
  cases c with
  | mainResetEnd a o => exact mainResetEnd_recorderChange h
  | gateCompletion e0 e1 e2 =>
    cases h
    split
    · have sensed (m : Ambient) : RecorderChange (.gateCompletion e0 e1 e2) s.recorder (s.withAmbient m).recorder := .refl
      dsimp only
      split <;> exact (((sensed _).reportSensor ..).reportSensor ..).reportSensor ..
    · exact .refl
  | secondRollover =>
    cases h
    split
    · exact .refl
    · exact start.secondRollover
  | timebaseFirstEdge =>
    cases h
    dsimp only
    split
    · split
      · exact .refl
      · have counted (k : ClockUnit) : RecorderChange .timebaseFirstEdge s.recorder (s.withClock k).recorder := .refl
        exact (counted _).secondRollover
    · exact .refl
  | timebaseFailure prescaler =>
    cases h
    dsimp only
    split
    · split
      · exact (start.conditions _).append
      · exact .refl
    · exact .refl
  | syncWatchExpiry =>
    cases h
    split
    · exact (start.conditions _).append
    · exact .refl
  | uptimeSecond mv first =>
    cases h
    dsimp only
    split
    · have counted (k : Supply) : RecorderChange (.uptimeSecond mv first) s.recorder (s.withSupply k).recorder := .refl
      split
      · exact ((counted _).batteryAtSecond _).authoritySecond
      · exact (counted _).authoritySecond.batteryAtSecond _
    · exact .refl
  | presenceTimeout =>
    cases h
    split
    · exact start.presenceRunOut
    · exact .refl
  | eblankActiveEdge | eblankInactiveEdge =>
    cases h
    split
    · split
      · exact start.setAuthority _
      · exact .refl
    · exact .refl
  | killStartUpTake high =>
    cases h
    split
    · exact .refl
    · split
      · exact start.setAuthority _
      · exact .refl
  | fsyncLevelTaken high | syncEvent high =>
    cases h
    split
    · exact start.takeFsync _
    · exact .refl
  | samplePoint z pt current =>
    cases h
    split
    · split
      · exact start.sampleOn ..
      · exact start.sampleOff ..
      · exact .refl
    · exact .refl
  | conversionCompletion code =>
    cases h
    split
    · exact .refl
    · split
      · dsimp only
        split
        · exact .refl
        · exact start.convert ..
      · exact .refl
  | writeAddress p addr | responseRead p addr =>
    cases h
    split
    · exact start.endWrite p
    · exact .refl
  | requestTaken w =>
    cases h
    split
    · split
      · exact start.endWrite _
      · exact (start.endWrite _).endWrite _
    · exact .refl
  | clockSet p =>
    cases h
    refine .serve fun r => ?_
    split
    · exact .refl
    · split
      · exact .refl
      · exact start.setClock _
  | epochWrite p =>
    cases h
    refine .serve fun r => ?_
    split
    · exact .refl
    · dsimp only
      split
      · exact .refl
      · exact start.storeEpoch ..
  | epochErase p =>
    cases h
    refine .serve fun r => ?_
    split
    · exact .refl
    · exact start.storeEpoch ..
  | zoneSetup p =>
    cases h
    refine .serve fun r => ?_
    split
    · exact start.setZoneRecord ..
    · exact .refl
  | killSetup p =>
    cases h
    refine .serve fun r => ?_
    split
    · split
      · exact .refl
      · exact start.setAuthority _
    · exact .refl
  | killRelease p =>
    cases h
    refine .serve fun r => ?_
    split
    · exact .refl
    · split
      · exact .refl
      · exact start.setAuthority _
  | faultSetup p =>
    cases h
    refine .serve fun r => ?_
    split
    · exact .refl
    · split
      · exact .refl
      · exact start.setFaultSetup ..
  | zoneRearm p =>
    cases h
    refine .serve fun r => ?_
    split
    · exact .refl
    · split
      · exact start.rearm _
      · exact .refl
  | driveSetup p =>
    cases h
    refine .serve fun r => ?_
    split
    · exact start.setDriveTiming ..
    · exact .refl
  | journalRead p =>
    cases h
    exact .serve fun r => .single (.read p rfl)
  | grantSet p =>
    cases h
    refine .serve fun r => ?_
    split
    · exact .refl
    · refine .of_eq ?_
      dsimp only
      rw [State.setGrants_eq]
  -- the requests that only read
  | status p | clockRead p | epochRead p | curveRead p | sensorRead p | zoneRead p | gainRead p | levelRead p | ovrList p
  | authRead p | grantRead p | faultRead p => cases h; exact .serve fun _ => .refl
  -- the other requests with a rule of their own
  | curveWrite p | sensorSetup p | gainWrite p | zoneMode p | ovrPush p | ovrRemove p | ovrClear p | authSetup p
  | attnRead p | attnMask p =>
    cases h
    refine .serve fun r => .of_eq ?_
    repeat' ((try dsimp only); split)
    all_goals rfl
  -- the events that reach no record
  | resolveExpiry | backupStorageDisturbance i contents | overrideExpired | periodEnd z | countClockSwitch
  | dataByte p b | unknownCode p | deviceReset p | brownOut | mainSupplyRise | resetNAssert | resetNRelease
  | retentionLoss =>
    cases h
    refine .of_eq ?_
    repeat' ((try dsimp only); split)
    all_goals simp

/-! ### The journal's law (R131) -/

/-- What the journal's law says of the Recorder, port by port. -/
def Recorder.Bounded (r : Recorder) : Prop :=
  r.journal.length ≤ 48 ∧ ∀ p, r.unread.get p ≤ r.journal.length ∧ r.missed.get p ≤ 255

theorem journalLaw_iff (s : State) : JournalLaw s ↔ s.recorder.Bounded := by
  constructor
  · rintro ⟨journal, unreadA, unreadO, missedA, missedO⟩
    exact ⟨journal, fun | .a => ⟨unreadA, missedA⟩ | .o => ⟨unreadO, missedO⟩⟩
  · rintro ⟨journal, counts⟩
    exact ⟨journal, (counts .a).1, (counts .o).1, (counts .a).2, (counts .o).2⟩

/-- An append keeps the law: an unread count steps with the held records, or stops with them at 48. -/
theorem Recorder.Bounded.append (law : r.Bounded) (x : JournalRecord) : (r.append x).Bounded := by
  obtain ⟨journal, counts⟩ := law
  refine ⟨?_, fun p => ?_⟩
  · rw [Recorder.append_length]
    split <;> omega
  · obtain ⟨unread, missed⟩ := counts p
    rw [Recorder.append_length, Recorder.append_unread, Recorder.append_missed]
    constructor
    · split <;> split <;> omega
    · split <;> omega

/-- A JOURNAL_READ keeps the law: no count grows. -/
theorem Recorder.Bounded.markRead (law : r.Bounded) (p : Port) : (r.markRead p).Bounded := by
  obtain ⟨journal, counts⟩ := law
  refine ⟨journal, fun q => ?_⟩
  obtain ⟨unread, missed⟩ := counts q
  simp only [Recorder.markRead, PortPair.get_set]
  constructor
  · split
    next same => subst same; omega
    next => exact unread
  · split
    next => omega
    next => exact missed

/-- The Recorder after a main reset is within the law. -/
theorem recorderAfterReset_bounded (clockInvalid lost : Bool) : (recorderAfterReset clockInvalid lost).Bounded :=
  ⟨Nat.zero_le _, fun p => by cases p <;> exact ⟨Nat.le_refl _, Nat.zero_le _⟩⟩

/-- Every way in which a command can change the Recorder keeps the law. -/
theorem RecorderChange.bounded (h : RecorderChange c r₀ r) (law : r₀.Bounded) : r.Bounded := by
  induction h with
  | refl => exact law
  | tail _ move ih =>
    cases move with
    | appended x => exact ih.append x
    | conditions | table => exact ih
    | read p => exact ih.markRead p
    | reset => exact recorderAfterReset_bounded _ _

/-- A JOURNAL_READ keeps the journal and lets no port's unread count grow (R128). -/
theorem journalRead_recorder (q : Port) (h : exec (.journalRead p) s = .next t) :
    t.recorder.journal = s.recorder.journal ∧ t.recorder.unread.get q ≤ s.recorder.unread.get q := by
  cases h
  refine serve_keeps
    (P := fun u => u.recorder.journal = s.recorder.journal ∧ u.recorder.unread.get q ≤ s.recorder.unread.get q)
    (fun _ _ kept => kept) ⟨rfl, Nat.le_refl _⟩ fun r => ⟨rfl, ?_⟩
  simp only [State.withRecorder_recorder, Recorder.markRead, PortPair.get_set]
  split
  next same => subst same; exact Nat.sub_le ..
  next => exact Nat.le_refl _

/-- Settles O4: each way in which a command can change the Recorder keeps the law, an append counting as R127 says. -/
theorem journalAndUnreadCountsStayBounded : Obligations.JournalAndUnreadCountsStayBounded := by
  refine ⟨fun s t law h => ?_, fun r x room => ⟨?_, fun p => ?_⟩,
    fun r x full => ⟨?_, fun p => ⟨fun below => ?_, fun at_ => ?_⟩⟩,
    fun s t p q h => journalRead_recorder q h, fun s lost a o => ⟨rfl, rfl⟩⟩
  · rw [journalLaw_iff] at law ⊢
    rcases step_cases h with rfl | ⟨c, rest, -, run⟩
    · exact law
    · exact (exec_recorder run).bounded law
  · rw [r.append_length, if_pos room]
  · rw [r.append_unread, if_pos (.inl room)]
  · rw [r.append_length, if_neg full.not_lt, full]
  · rw [r.append_unread, if_pos (.inr below)]
  · rw [r.append_unread, if_neg (by omega), at_]

end Sys2Proof.Machine
end

section
/-! PROOF. O57: where the records of a JOURNAL_READ stand in its response (R128, R153), the bits of an ATTN_READ's pending set
(R158), and the highest cause of a port and the line that follows it (R156, R157). -/

namespace Sys2Proof.Machine

variable {s : State} {p : Port} {r : Request}

/-! ### The bytes of JOURNAL_READ (R128, R153) -/

/-- Each of the records laid out one after another stands at twelve times its place (R153). -/
theorem recordAt_flatMap {l : List JournalRecord} {i : Nat} {x : JournalRecord} (h : l[i]? = some x) :
    RecordAt (l.flatMap JournalRecord.bytes) (12 * i) x := by
  obtain ⟨within, rfl⟩ := List.getElem?_eq_some_iff.1 h
  have around : l.flatMap JournalRecord.bytes =
      (l.take i).flatMap JournalRecord.bytes ++ l[i].bytes ++ (l.drop (i + 1)).flatMap JournalRecord.bytes :=
    calc l.flatMap JournalRecord.bytes
      _ = (l.take i ++ l[i] :: l.drop (i + 1)).flatMap JournalRecord.bytes := by
        rw [← List.drop_eq_getElem_cons within, List.take_append_drop]
      _ = _ := by simp only [List.flatMap_append, List.flatMap_cons, List.append_assoc]
  have before : ((l.take i).flatMap JournalRecord.bytes).length = 12 * i := by
    rw [flatMap_length _ _ 12 JournalRecord.bytes_length, List.length_take_of_le within.le]
  rw [around, ← before]
  exact recordAt_bytes ..

/-- A port's oldest unread records, at most four, are as many as JOURNAL_READ says (R128). -/
theorem Recorder.oldestUnread_length {r : Recorder} (held : r.unread.get p ≤ r.journal.length) :
    (r.oldestUnread p).length = min 4 (r.unread.get p) := by
  simp only [Recorder.oldestUnread, List.length_take, List.length_drop, Config.journalBurst]
  omega

/-- JOURNAL_READ answers the port's missed count, the counts of its records and their bytes, and marks them read on that port
(R128). -/
theorem journalRead_answers (h : Admitted s p rowJournalRead r) :
    ∃ t, exec (.journalRead p) s = .next t ∧
      Answered s t p
        ⟨.ok, byteOf (s.recorder.missed.get p) :: byteOf (min 4 (s.recorder.unread.get p)) ::
          byteOf (s.recorder.unread.get p - min 4 (s.recorder.unread.get p)) :: byteOf s.recorder.journal.length ::
            (s.recorder.oldestUnread p).flatMap JournalRecord.bytes⟩ ∧
      ownEffect s t = s.withRecorder (s.recorder.markRead p) :=
  ⟨_, rfl, serve_answers h rfl rfl rfl⟩

/-! ### The bytes of ATTN_READ (R157, R158) -/

/-- The pending set as a number has the cause of rank `i + 1` in its bit `i` (R154, R159). -/
theorem pendingWeights_eq_ofBits (s : State) (p : Port) :
    s.pendingWeights p = Nat.ofBits fun i : Fin 9 => s.pendingCause p (allCauses.get i) := by
  simp only [State.pendingWeights, Cause.code, allCauses, List.foldl_cons, List.foldl_nil, Nat.ofBits_succ,
    Nat.ofBits_zero, Function.comp_apply, List.get_eq_getElem, Fin.succ_zero_eq_one, Fin.succ_one_eq_two, Fin.reduceSucc,
    Fin.coe_ofNat_eq_mod, Nat.mod_succ, Nat.one_mod, Nat.zero_mod, Nat.reduceMod, Nat.reduceAdd, Nat.add_one_sub_one,
    List.length_cons, List.length_nil, List.getElem_cons_succ, List.getElem_cons_zero]
  omega

theorem pendingWeights_testBit (s : State) (p : Port) (c : Cause) :
    (s.pendingWeights p).testBit (c.code - 1) = s.pendingCause p c := by
  rw [pendingWeights_eq_ofBits]
  cases c <;> exact Nat.testBit_ofBits_lt _ _ (by decide)

theorem pendingWeights_lt (s : State) (p : Port) : s.pendingWeights p < 512 := by
  rw [pendingWeights_eq_ofBits]
  exact Nat.ofBits_lt_two_pow _

/-- A 2-byte field reads back as its number. -/
theorem fieldAt_be2 {n : Nat} (h : n < 65536) (d : List Byte) : fieldAt (be2 n ++ d) 0 2 = n := by
  change (0 * 256 + (BitVec.ofNat 8 (n / 256)).toNat) * 256 + (BitVec.ofNat 8 n).toNat = n
  rw [BitVec.toNat_ofNat, BitVec.toNat_ofNat]
  omega

/-- A 1-byte field after other bytes reads back as its number. -/
theorem fieldAt_be1 {n : Nat} (h : n < 256) (pre d : List Byte) : fieldAt (pre ++ be1 n ++ d) pre.length 1 = n := by
  simpa [fieldAt, be1, byteOf] using h

/-! ### The highest cause of a port, and its line (R156, R157) -/

theorem Cause.code_pos (c : Cause) : 0 < c.code := by cases c <;> decide

theorem Cause.code_le (c : Cause) : c.code ≤ 9 := by cases c <;> decide

/-- A cause stands at its rank. -/
theorem allCauses_getElem (c : Cause) : allCauses[c.code - 1]? = some c := by cases c <;> rfl

theorem mem_allCauses (c : Cause) : c ∈ allCauses := List.mem_of_getElem? (allCauses_getElem c)

theorem Cause.code_injective : Function.Injective Cause.code := fun b c h => by
  have same := allCauses_getElem b
  rw [h, allCauses_getElem] at same
  exact (Option.some.inj same).symm

theorem allCauses_byRank : allCauses.Pairwise fun b c => b.code < c.code := by decide

/-- The first cause by rank that satisfies `q` has none of lower code beside it. -/
theorem find_allCauses_least {q : Cause → Bool} {b c : Cause} (h : allCauses.find? q = some c) (lower : b.code < c.code) :
    q b = false := by
  obtain ⟨-, before, after, around, earlierNot⟩ := List.find?_eq_some_iff_append.1 h
  have sorted := allCauses_byRank
  rw [around, List.pairwise_append] at sorted
  obtain ⟨-, rest, -⟩ := sorted
  have mem := mem_allCauses b
  rw [around, List.mem_append, List.mem_cons] at mem
  rcases mem with earlier | rfl | later
  · simpa using earlierNot b earlier
  · exact absurd lower (lt_irrefl _)
  · exact absurd (List.rel_of_pairwise_cons rest later) lower.asymm

/-- A cause is the first by rank to satisfy `q` exactly when it does and none of lower code does. -/
theorem find_allCauses_iff {q : Cause → Bool} {c : Cause} :
    allCauses.find? q = some c ↔ q c = true ∧ ∀ b : Cause, b.code < c.code → q b = false := by
  constructor
  · exact fun h => ⟨List.find?_some h, fun b => find_allCauses_least h⟩
  · rintro ⟨holds, least⟩
    obtain ⟨d, found⟩ := Option.isSome_iff_exists.1 (List.find?_isSome.2 ⟨c, mem_allCauses c, holds⟩)
    rcases lt_trichotomy d.code c.code with lower | same | higher
    · exact absurd (List.find?_some found) (by simp [least d lower])
    · rw [found, Cause.code_injective same]
    · rw [find_allCauses_least found higher] at holds
      cases holds

/-- The highest cause of a port has the code of the first cause by rank that is pending and enabled (R157). -/
theorem highestCause_eq_code_iff (s : State) (p : Port) (c : Cause) :
    s.highestCause p = c.code ↔ (allCauses.find? fun c => s.pendingCause p c && s.enabledCause p c) = some c := by
  unfold State.highestCause
  cases found : allCauses.find? fun c => s.pendingCause p c && s.enabledCause p c with
  | none => simp [c.code_pos.ne]
  | some b => simp [Cause.code_injective.eq_iff]

/-- A port's highest cause is 0 exactly while none is pending and enabled (R157). -/
theorem highestCause_pos_iff (s : State) (p : Port) :
    0 < s.highestCause p ↔ ∃ c : Cause, (s.pendingCause p c && s.enabledCause p c) = true := by
  unfold State.highestCause
  cases found : allCauses.find? fun c => s.pendingCause p c && s.enabledCause p c with
  | none =>
    rw [List.find?_eq_none] at found
    simpa using fun c => by simpa using found c (mem_allCauses c)
  | some b =>
    have holds := List.find?_some found
    exact iff_of_true b.code_pos ⟨b, holds⟩

theorem highestCause_le (s : State) (p : Port) : s.highestCause p ≤ 9 := by
  unfold State.highestCause
  split
  · exact Cause.code_le _
  · exact Nat.zero_le _

/-- The line of a port is active while the main domain runs and a cause is pending and enabled (R155, R157). -/
theorem attnActive_iff (s : State) (p : Port) :
    s.attnActive p = true ↔ s.supply.inReset = false ∧ 0 < s.highestCause p := by
  simp [State.attnActive, State.running, highestCause_pos_iff, mem_allCauses]

/-! ### What the requests answer and leave -/

/-- The data of an ATTN_READ's response: the pending set, the highest cause and the last-expired id, which is the A-port's alone
(R154, R158). -/
def State.attnData (s : State) (p : Port) : List Byte :=
  be2 (s.pendingWeights p) ++ be1 (s.highestCause p) ++
    be1 (match p with
      | .a => s.attention.lastExpired
      | .o => 0)

/-- ATTN_READ answers its data and clears its port's latched causes (R158). -/
theorem attnRead_answers (h : Admitted s p rowAttnRead r) :
    ∃ t, exec (.attnRead p) s = .next t ∧ Answered s t p ⟨.ok, s.attnData p⟩ ∧
      ownEffect s t = s.withAttention (s.attention.clearLatched p) :=
  ⟨_, rfl, serve_answers h rfl rfl rfl⟩

theorem attnData_pending (s : State) (p : Port) : fieldAt (s.attnData p) 0 2 = s.pendingWeights p :=
  fieldAt_be2 ((pendingWeights_lt s p).trans (by decide)) _

theorem attnData_highest (s : State) (p : Port) : fieldAt (s.attnData p) 2 1 = s.highestCause p :=
  fieldAt_be1 ((highestCause_le s p).trans_lt (by decide)) (be2 (s.pendingWeights p)) _

theorem attnData_lastExpired_a (last : s.attention.lastExpired ≤ 255) :
    fieldAt (s.attnData .a) 3 1 = s.attention.lastExpired :=
  fieldAt_be1 (Nat.lt_succ_of_le last) (be2 (s.pendingWeights .a) ++ be1 (s.highestCause .a)) []

theorem attnData_lastExpired_o (s : State) : fieldAt (s.attnData .o) 3 1 = 0 :=
  fieldAt_be1 (Nat.zero_lt_succ 255) (be2 (s.pendingWeights .o) ++ be1 (s.highestCause .o)) []

/-- The bit of each cause in the pending set (R158, R159). -/
theorem attnData_bit (s : State) (p : Port) (c : Cause) :
    (BitVec.ofNat 9 (fieldAt (s.attnData p) 0 2)).getLsbD (c.code - 1) = s.pendingCause p c := by
  have within : c.code - 1 < 9 := by have := c.code_le; omega
  rw [attnData_pending, BitVec.getLsbD_ofNat, pendingWeights_testBit, decide_eq_true within, Bool.true_and]

/-- What R158 clears of a port's latched causes. -/
theorem Attention.clearLatched_eq (a : Attention) (p : Port) :
    a.clearLatched p =
      { a with
        grade := a.grade.set p false
        overrideExpired := if p = .a then false else a.overrideExpired
        grant := if p = .o then false else a.grant } := by
  cases p <;> rfl

/-- What each cause is on each port (R156). -/
theorem pendingCause_iff (s : State) (p : Port) :
    (s.pendingCause p .kill = true ↔ KillInForce s.authority) ∧
      (s.pendingCause p .failsafe = true ↔ s.authority.mode = .failsafe) ∧
      (s.pendingCause p .schedule = true ↔ ¬ScheduleValid s) ∧
      (s.pendingCause p .clock = true ↔ s.clock.valid = false) ∧
      (s.pendingCause p .journal = true ↔ 0 < s.recorder.unread.get p) ∧
      (s.pendingCause p .overrideExpired = true ↔ p = .a ∧ s.attention.overrideExpired = true) ∧
      (s.pendingCause p .grant = true ↔ p = .o ∧ s.attention.grant = true) ∧
      (s.pendingCause p .grade = true ↔ s.attention.grade.get p = true) ∧
      (s.pendingCause p .battery = true ↔ s.recorder.conditions.batteryLow = true) := by
  simp [State.pendingCause, Authority.killInForce_iff, ← State.scheduleValid_iff]

/-- The BATTERY condition under its owner: class 0 or 1 (R122, R156). -/
theorem ConditionsLaw.batteryLow_iff (law : ConditionsLaw s) :
    s.recorder.conditions.batteryLow = true ↔ s.supply.battery = some 0 ∨ s.supply.battery = some 1 := by
  obtain ⟨-, -, -, -, -, battery, -⟩ := law
  rw [battery]
  cases s.supply.battery with
  | none => simp
  | some n => simp; omega

/-- Settles O57: what JOURNAL_READ, ATTN_READ and ATTN_MASK answer and change of their port, and the causes by rank. -/
theorem perPortRequestsActOnTheirPortAlone : Obligations.PerPortRequestsActOnTheirPortAlone := by
  intro s p r
  obtain ⟨kill, failsafe, schedule, clock, journal, expired, grant, grade, battery⟩ := pendingCause_iff s p
  refine ⟨fun law admitted => ?journalRead, fun admitted => ?attnRead, fun admitted => ?attnMask,
    ⟨kill, failsafe, schedule, clock, journal, expired, grant, grade, battery,
      fun law => battery.trans law.batteryLow_iff⟩,
    fun c => by cases c <;> decide, attnActive_iff s p, fun c => ?highest⟩
  case journalRead =>
    rw [journalLaw_iff] at law
    have count := Recorder.oldestUnread_length (law.2 p).1
    obtain ⟨t, run, answered, own⟩ := journalRead_answers admitted
    refine ⟨t, (s.recorder.oldestUnread p).flatMap JournalRecord.bytes, run, answered, rfl, ?_, fun i x within at_ => ?_, own⟩
    · rw [flatMap_length _ _ 12 JournalRecord.bytes_length, count]
    · exact recordAt_flatMap ((List.getElem?_take_of_lt within).trans at_)
  case attnRead =>
    obtain ⟨t, run, answered, own⟩ := attnRead_answers admitted
    rw [Attention.clearLatched_eq] at own
    exact ⟨t, s.attnData p, run, answered, rfl, attnData_bit s p, (attnData_pending s p).trans_lt (pendingWeights_lt s p),
      attnData_highest s p, fun port => by subst port; exact attnData_lastExpired_a,
      fun port => by subst port; exact attnData_lastExpired_o s, own⟩
  case attnMask => exact ⟨_, rfl, serve_answers admitted rfl rfl rfl⟩
  case highest =>
    rw [highestCause_eq_code_iff, find_allCauses_iff]
    simp only [Bool.and_eq_true, ← Bool.not_eq_true, and_assoc]
    rfl

end Sys2Proof.Machine
end

section
/-! PROOF. O43: the two checks of R148 that every catalogued request meets first (R134), that a request's own rule answers OK or
leaves the state as it stands, and what the taking of a request does to Authority Control (R75). -/

namespace Sys2Proof.Machine

variable {s t u : State} {p : Port} {row : CatalogueRow} {r : Request} {c : Instr}

/-! ### What a request's own rule answers (R134) -/

/-- What R134 asks of a request's own rule: it answers OK, or it gives the state as it stood. -/
def OkOrKept (s : State) (out : State × Response) : Prop := out.2.status = .ok ∨ out.1 = s

@[simp] theorem okOrKept_kept (resp : Response) : OkOrKept s (s, resp) := .inr rfl

@[simp] theorem okOrKept_ok (d : List Byte) : OkOrKept s (u, ⟨.ok, d⟩) := .inl rfl

@[simp] theorem okOrKept_bare_ok : OkOrKept s (u, bare .ok) := .inl rfl

@[simp] theorem okOrKept_okData (d : List Byte) : OkOrKept s (u, okData d) := .inl rfl

@[simp] theorem complete_response (s : State) (p : Port) (resp : Response) :
    ((s.complete p resp).ports.get p).response = resp := by
  simp [State.complete]

/-- A service whose rule answers OK or keeps the state changes nothing with any other status, whichever check refuses it. -/
theorem serve_not_ok_keeps {body : Request → State → State × Response} (h : InService s p row r)
    (own : OkOrKept s (body r s)) (bad : ((s.serve p row body).ports.get p).response.status ≠ .ok) :
    ownEffect s (s.serve p row body) = s := by
  by_cases count : r.count = row.argBytes
  · by_cases right : MayMake s p row
    · rw [serve_admitted ⟨h, count, right⟩] at bad ⊢
      rw [complete_response] at bad
      rw [own.resolve_left bad]
      exact ownEffect_complete rfl rfl
    · rw [serve_denied h count right]
      exact ownEffect_complete rfl rfl
  · rw [serve_length h count]
    exact ownEffect_complete rfl rfl

/-! ### The catalogued requests as services (R148, R151) -/

/-- The command serves the requests of a row on a port by a rule that answers OK or keeps the state. -/
def Serves (c : Instr) (row : CatalogueRow) (p : Port) : Prop :=
  ∃ body : Request → State → State × Response, (∀ s, exec c s = .next (s.serve p row body)) ∧ ∀ r s, OkOrKept s (body r s)

/-- Every catalogued request but DEVICE_RESET, which writes no response (R164), is a service of its own rule. -/
theorem serves_or_deviceReset (request : requestOf c = some (row, p)) :
    Serves c row p ∨ c = .deviceReset p ∧ row = rowDeviceReset := by
  cases c with
  | deviceReset q => cases request; exact .inr ⟨rfl, rfl⟩
  -- the requests that only read
  | status q | clockRead q | epochRead q | curveRead q | sensorRead q | zoneRead q | gainRead q | levelRead q | ovrList q
  | authRead q | grantRead q | faultRead q =>
    cases request
    exact .inl ⟨_, fun _ => rfl, fun _ _ => okOrKept_kept _⟩
  -- the requests that no rule of their own refuses
  | ovrClear q | journalRead q | attnRead q | attnMask q =>
    cases request
    exact .inl ⟨_, fun _ => rfl, fun _ _ => .inl rfl⟩
  -- the requests with checks of their own, each answering over the state as it stands
  | clockSet q | epochWrite q | epochErase q | curveWrite q | sensorSetup q | zoneSetup q | gainWrite q | zoneMode q
  | ovrPush q | ovrRemove q | killSetup q | killRelease q | authSetup q | grantSet q | faultSetup q | zoneRearm q
  | driveSetup q =>
    cases request
    refine .inl ⟨_, fun _ => rfl, fun r s => ?_⟩
    repeat' ((try dsimp only); split)
    all_goals simp
  | _ => cases request

/-- A wrong count of argument bytes answers LENGTH, before anything else is looked at (R134, R148). -/
theorem exec_request_length (request : requestOf c = some (row, p)) (h : InService s p row r)
    (count : r.count ≠ row.argBytes) : exec c s = .next (s.complete p (bare .length)) := by
  obtain ⟨body, run, -⟩ | ⟨rfl, rfl⟩ := serves_or_deviceReset request
  · rw [run, serve_length h count]
  · simp [exec, execDeviceReset, serviceOf_eq_some.2 h, count]

/-- With the right count, a port without the right answers DENIED (R134, R148). -/
theorem exec_request_denied (request : requestOf c = some (row, p)) (h : InService s p row r)
    (count : r.count = row.argBytes) (denied : ¬MayMake s p row) :
    exec c s = .next (s.complete p (bare .denied)) := by
  obtain ⟨body, run, -⟩ | ⟨rfl, rfl⟩ := serves_or_deviceReset request
  · rw [run, serve_denied h count denied]
  · simp [exec, execDeviceReset, serviceOf_eq_some.2 h, count, mt permitted_iff.1 denied]

/-- A request answered with any status but OK has changed nothing (R134). -/
theorem exec_request_not_ok_keeps (request : requestOf c = some (row, p)) (h : InService s p row r)
    (run : exec c s = .next t) (other : row ≠ rowDeviceReset) (bad : (t.ports.get p).response.status ≠ .ok) :
    ownEffect s t = s := by
  obtain ⟨body, served, own⟩ | ⟨-, reset⟩ := serves_or_deviceReset request
  · rw [served] at run
    cases run
    exact serve_not_ok_keeps h (own r s) bad
  · exact absurd reset other

/-- A request in service whose code the catalogue does not have answers UNKNOWN (R148). -/
theorem exec_unknownCode (up : s.supply.inReset = false) (serving : s.store.serving = some p)
    (slot : (s.ports.get p).slot = some r) (uncatalogued : ∀ row ∈ catalogue, row.code ≠ r.code) :
    exec (.unknownCode p) s = .next (s.complete p (bare .unknown)) := by
  have service : s.inService p = some r := by simp [State.inService, State.running, up, serving, slot]
  have unknown : inCatalogue r.code = false := by simpa [inCatalogue] using uncatalogued
  simp [exec, execUnknownCode, service, unknown]

/-! ### The taking of a request (R75, R146) -/

/-- The end of a write transaction that has received a code takes the request (R146). -/
theorem State.endWrite_of_code {code : Byte} {args : List Byte} {n : Nat}
    (receive : (s.ports.get p).receive = .receiving (some code) args n) : s.endWrite p = s.take p ⟨code, args, n⟩ := by
  simp [State.endWrite, receive]

/-- A request taken on the A-port reloads the Presence Timer and ends FAILSAFE; one taken on the O-port does neither (R75). -/
theorem State.take_authority (s : State) (p : Port) (r : Request) :
    (s.take p r).authority =
      if p = .a then
        { s.authority with mode := .normal, origin := .reset, presence := presenceLoad s.authority.settings.window }
      else s.authority := by
  cases p <;> simp [State.take, State.authorityHeard_eq]

/-! ### The statement -/

/-- Settles O43: LENGTH, DENIED and UNKNOWN in their order, what a request refused has left, and what its taking has done. -/
theorem refusedRequestsChangeNothing : Obligations.RefusedRequestsChangeNothing := by
  refine ⟨fun c row s p r request h => ⟨fun count => ?length, fun count denied => ?denied, fun t run => ?notOk⟩,
    fun s p r up serving slot uncatalogued => ?unknown, fun s t p code args n up receive run => ?taken⟩
  case length => exact ⟨_, exec_request_length request h count, refused_complete⟩
  case denied => exact ⟨_, exec_request_denied request h count denied, refused_complete⟩
  case notOk => exact exec_request_not_ok_keeps request h run
  case unknown => exact ⟨_, exec_unknownCode up serving slot uncatalogued, refused_complete⟩
  case taken =>
    have taking : exec (.requestTaken (.one p)) s = .next (s.take p ⟨code, args, n⟩) := by
      simp [exec, execRequestTaken, State.running, up, State.endWrite_of_code receive]
    rw [taking] at run
    cases run
    exact s.take_authority p _

end Sys2Proof.Machine
end

section
/-! PROOF. O10, O27, O28, O29 and O30: the calendar in numbers (R46 to R48), the ways in which a command can change the clock unit,
said once for all commands, what each of them keeps of its ranges (R45, R55, R60), and which entry an evaluation chooses (R61). -/

namespace Sys2Proof.Machine

variable {c : Instr} {s t : State} {k k' : ClockUnit} {p : Port} {row : CatalogueRow}

/-! ### The ways in which a command can change the clock unit -/

/-- The ways in which a part of a command `c` can change the clock unit. -/
inductive ClockMove (c : Instr) (k : ClockUnit) : ClockUnit → Prop
  /-- R60, R62: an evaluation forms the active epoch and may mark entries. -/
  | evaluated (epochs : EpochBank EpochEntry)
      (kept : ∀ i, (epochs.get i).fields = (k.epochs.get i).fields ∧ (epochs.get i).parity = (k.epochs.get i).parity) :
      ClockMove c k { k with epochs, active := if k.valid then evaluateTable k.time k.epochs else none }
  /-- R46, R50: a second passes, which clears a timebase failure. -/
  | ticked : ClockMove c k { k with failed := false, prescaler := 0, time := k.time.nextSecond }
  /-- R50: the first edge after a failure completes no second. -/
  | edge (below : k.prescaler + 1 < 32768) : ClockMove c k { k with failed := false, prescaler := k.prescaler + 1 }
  /-- R49, R51: the timebase fails. -/
  | failed (n : Fin 32768) : ClockMove c k { k with failed := true, valid := false, active := none, prescaler := n.val }
  /-- R52: a valid time is loaded while the timebase runs. -/
  | loaded (time : CivilTime) (valid : time.valid = true) (runs : k.failed = false) :
      ClockMove c k { k with time, prescaler := 0, valid := true }
  /-- R57, R58: an entry is stored, in its ranges where the entry before it was. -/
  | stored (i : Fin 24) (f : EpochFields) (inRange : EpochInRange (k.epochs.get i).fields → EpochInRange f)
      (own : ∃ p, c = .epochWrite p ∨ c = .epochErase p) :
      ClockMove c k { k with epochs := k.epochs.set i ⟨f, f.parity, false⟩ }
  /-- R56: a disturbance changes the contents of an entry. -/
  | disturbed (i : Fin 24) (x : EpochContents) (own : c = .backupStorageDisturbance i x) :
      ClockMove c k { k with epochs := k.epochs.set i ⟨x.fields, x.parity, (k.epochs.get i).reported⟩ }
  /-- R163: a main reset's end finds the backup domain lost. -/
  | lost (own : ∃ a o, c = .mainResetEnd a o) : ClockMove c k clockAfterLoss

/-- A command `c` changes the clock unit by moves one after another. -/
abbrev ClockChange (c : Instr) : ClockUnit → ClockUnit → Prop := Relation.ReflTransGen (ClockMove c)

theorem ClockChange.of_eq (h : k' = k) : ClockChange c k k' := h ▸ .refl

/-- An evaluation is one move (R60, R62). -/
theorem ClockChange.evaluate (h : ClockChange c k s.clock) : ClockChange c k s.evaluate.clock := by
  obtain ⟨-, clock, active, entries, -⟩ := s.evaluate_evaluated
  rw [clock, active]
  exact h.tail (.evaluated _ fun i => by rw [entries i]; exact ⟨rfl, rfl⟩)

/-- A second rollover takes an evaluation at most, after the second has passed (R46, R60). -/
theorem ClockChange.secondRollover
    (h : ClockChange c k { s.clock with prescaler := 0, time := s.clock.time.nextSecond }) :
    ClockChange c k s.secondRollover.clock := by
  unfold State.secondRollover
  dsimp only
  split
  · exact ClockChange.evaluate (s := s.withClock _) h
  · exact h

theorem ClockChange.storeEpoch {i : Fin 24} {f : EpochFields}
    (inRange : EpochInRange (s.clock.epochs.get i).fields → EpochInRange f)
    (own : ∃ p, c = .epochWrite p ∨ c = .epochErase p) : ClockChange c s.clock (s.storeEpoch i f).clock :=
  ClockChange.evaluate (s := s.withClock _) (.single (.stored i f inRange own))

theorem ClockChange.setClock {time : CivilTime} (valid : time.valid = true) (runs : s.clock.failed = false) :
    ClockChange c s.clock (s.setClock time).clock := by
  unfold State.setClock
  dsimp only
  refine ClockChange.evaluate ?_
  split <;> exact .single (.loaded time valid runs)

theorem ClockChange.serve {body : Request → State → State × Response}
    (own : ∀ r, ClockChange c s.clock (body r s).1.clock) : ClockChange c s.clock (s.serve p row body).clock :=
  serve_keeps (P := fun u => ClockChange c s.clock u.clock) (fun _ _ kept => kept) .refl own

/-- The fields that EPOCH_WRITE stores lie in their ranges (R57). -/
theorem clampEpoch_inRange {f : EpochFields} (h : ¬(f.months = 0 ∨ f.weekdays = 0 ∨ 1440 ≤ f.start)) :
    EpochInRange (clampEpoch f) := by
  simp only [not_or, Nat.not_le] at h
  obtain ⟨months, weekdays, start⟩ := h
  exact ⟨months, weekdays, start, Nat.min_le_left .., Nat.min_le_left .., Nat.min_le_left ..⟩

@[simp] theorem State.reportLoss_clock (s : State) (lost : Bool) : (s.reportLoss lost).clock = s.clock := by
  cases lost <;> rfl

/-- The end of a main reset keeps the clock unit or finds it lost, and takes an evaluation (R163, R165). -/
theorem mainResetEnd_clockChange {a o : Fin 4} (h : exec (.mainResetEnd a o) s = .next t) :
    ClockChange (.mainResetEnd a o) s.clock t.clock := by
  cases h
  dsimp only
  split
  · refine ClockChange.evaluate ?_
    rw [State.reportLoss_clock]
    change ClockChange _ _ s.restoreBackup.clock
    unfold State.restoreBackup
    split
    · exact .single (.lost ⟨a, o, rfl⟩)
    · exact .refl
  · exact .refl

@[simp] theorem State.setGrants_clock (s : State) (g : GrantMap) : (s.setGrants g).1.clock = s.clock := by
  rw [State.setGrants_eq]

/-- What every command can do to the clock unit: eight commands reach it. -/
theorem exec_clock (h : exec c s = .next t) : ClockChange c s.clock t.clock := by
  cases c with
  | mainResetEnd a o => exact mainResetEnd_clockChange h
  | secondRollover =>
    cases h
    split
    next => exact .refl
    next runs =>
      have same : s.clock = { s.clock with failed := false } := by rw [← Bool.eq_false_iff.2 runs]
      refine .secondRollover ?_
      conv => rhs; rw [same]
      exact .single .ticked
  | timebaseFirstEdge =>
    cases h
    dsimp only
    split
    · split
      next below => exact .single (.edge below)
      next => exact ClockChange.secondRollover (s := s.withClock _) (.single .ticked)
    · exact .refl
  | timebaseFailure n =>
    cases h
    dsimp only
    split
    · split <;> exact .single (.failed n)
    · exact .refl
  | backupStorageDisturbance i x =>
    cases h
    exact .single (.disturbed i x rfl)
  | clockSet p =>
    cases h
    refine .serve fun r => ?_
    split
    next => exact .refl
    next valid =>
      split
      next => exact .refl
      next runs => exact .setClock (by simpa using valid) (Bool.eq_false_iff.2 runs)
  | epochWrite p =>
    cases h
    refine .serve fun r => ?_
    split
    · exact .refl
    · dsimp only
      split
      next => exact .refl
      next ok => exact .storeEpoch (fun _ => clampEpoch_inRange ok) ⟨p, .inl rfl⟩
  | epochErase p =>
    cases h
    refine .serve fun r => ?_
    split
    · exact .refl
    · exact .storeEpoch (fun inRange => inRange) ⟨p, .inr rfl⟩
  -- the requests that only read
  | status p | clockRead p | epochRead p | curveRead p | sensorRead p | zoneRead p | gainRead p | levelRead p | ovrList p
  | authRead p | grantRead p | faultRead p => cases h; exact .serve fun _ => .refl
  -- the other requests with a rule of their own
  | curveWrite p | sensorSetup p | zoneSetup p | gainWrite p | zoneMode p | ovrPush p | ovrRemove p | ovrClear p
  | killSetup p | killRelease p | authSetup p | grantSet p | faultSetup p | zoneRearm p | journalRead p | attnRead p
  | attnMask p | driveSetup p =>
    cases h
    refine .serve fun r => .of_eq ?_
    repeat' ((try dsimp only); split)
    all_goals simp
  -- the events of the other blocks, the link's and the resets' beginnings
  | resolveExpiry | gateCompletion e0 e1 e2 | uptimeSecond mv first | overrideExpired | presenceTimeout
  | eblankActiveEdge | eblankInactiveEdge | killStartUpTake high | periodEnd z | countClockSwitch | fsyncLevelTaken high
  | syncEvent high | syncWatchExpiry | samplePoint z pt current | conversionCompletion code | writeAddress p addr
  | dataByte p b | requestTaken w | responseRead p addr | unknownCode p | deviceReset p | brownOut | mainSupplyRise
  | resetNAssert | resetNRelease | retentionLoss =>
    cases h
    refine .of_eq ?_
    repeat' ((try dsimp only); split)
    all_goals simp

/-! ### What an evaluation chooses (R61) -/

/-- An evaluation's active epoch is that of an entry that takes part (R61, R62). -/
theorem evaluateTable_some {time : CivilTime} {table : EpochBank EpochEntry} {a : ActiveEpoch}
    (h : evaluateTable time table = some a) : a = activeOf a.index (table.get a.index) ∧
      (table.get a.index).takesPart = true := by
  unfold evaluateTable at h
  split at h
  next i chosen =>
    cases h
    have := ((chooseEpoch_spec _ _).2 i chosen).1
    simp only [EpochEntry.today, Bool.and_eq_true] at this
    exact ⟨rfl, this.1.1⟩
  next =>
    split at h
    next i chosen =>
      cases h
      have := ((chooseEpoch_spec _ _).2 i chosen).1
      simp only [EpochEntry.yesterday, Bool.and_eq_true] at this
      exact ⟨rfl, this.1⟩
    next => cases h

/-! ### What the moves keep (R45, R55, R60) -/

/-- The law of the clock unit by itself. -/
def ClockUnit.Lawful (k : ClockUnit) : Prop :=
  k.time.valid = true ∧ k.prescaler < 32768 ∧ (k.failed = true → k.valid = false) ∧ (k.valid = false → k.active = none) ∧
    (∀ i : Fin 24, EpochInRange (k.epochs.get i).fields) ∧
    ∀ e ∈ k.active, e.commercial ≤ 12000 ∧ e.authority ≤ 12000 ∧ e.fallback ≤ 120000

theorem scheduleLaw_iff (s : State) : ScheduleLaw s ↔ s.clock.Lawful := .rfl

theorem clockAfterLoss_lawful : clockAfterLoss.Lawful := by
  refine ⟨by decide, by decide, by decide, by decide, fun i => ?_, by decide⟩
  simp only [clockAfterLoss, EpochBank.get_ofFn]
  exact ⟨by decide, by decide, by decide, by decide, by decide, by decide⟩

/-- A bank of entries in their ranges with one more stored in its ranges. -/
theorem epochs_set_inRange {b : EpochBank EpochEntry} {i : Fin 24} {e : EpochEntry}
    (all : ∀ j, EpochInRange (b.get j).fields) (one : EpochInRange e.fields) (j : Fin 24) :
    EpochInRange ((b.set i e).get j).fields := by
  rw [EpochBank.get_set]
  split
  · exact one
  · exact all j

theorem ClockMove.lawful (h : ClockMove c k k') (law : k.Lawful) : k'.Lawful := by
  obtain ⟨time, prescaler, failed, invalid, entries, active⟩ := law
  cases h with
  | evaluated epochs kept =>
    refine ⟨time, prescaler, failed, fun off => by simp_all, fun i => (kept i).1 ▸ entries i, fun e chosen => ?_⟩
    dsimp only at chosen
    split at chosen
    · obtain ⟨record, -⟩ := evaluateTable_some chosen
      rw [record]
      obtain ⟨-, -, -, commercial, authority, fallback⟩ := entries e.index
      exact ⟨commercial, authority, fallback⟩
    · cases chosen
  | ticked => exact ⟨CivilTime.nextSecond_valid time, by simp, by simp, invalid, entries, active⟩
  | edge below => exact ⟨time, below, by simp, invalid, entries, active⟩
  | failed n => exact ⟨time, n.isLt, fun _ => rfl, fun _ => rfl, entries, by simp⟩
  | loaded time valid runs => exact ⟨valid, by simp, by simp [runs], by simp, entries, active⟩
  | stored i f inRange =>
    exact ⟨time, prescaler, failed, invalid, epochs_set_inRange entries (inRange (entries i)), active⟩
  | disturbed i x => exact ⟨time, prescaler, failed, invalid, epochs_set_inRange entries (EpochContents.fields_inRange x), active⟩
  | lost => exact clockAfterLoss_lawful

theorem ClockChange.lawful (h : ClockChange c k k') (law : k.Lawful) : k'.Lawful := by
  induction h with
  | refl => exact law
  | tail _ move ih => exact move.lawful ih

/-- Settles O10: every command changes the clock unit by moves, and each move keeps its law. -/
theorem clockAndScheduleKeepTheirLaw : Obligations.ClockAndScheduleKeepTheirLaw := fun s t law h => by
  rcases step_cases h with rfl | ⟨c, rest, -, run⟩
  · exact law
  · exact (exec_clock (s := s.withPending rest) run).lawful law

/-! ### The calendar in numbers (R46 to R48) -/

/-- A new day is one day later, but for the wrap at the end of 2099 (R46 to R48). -/
theorem CivilTime.nextDay_dayNumber {t : CivilTime} (h : t.valid = true)
    (wraps : ¬(t.year = 2099 ∧ t.month = 12 ∧ t.day = 31)) : t.nextDay.dayNumber = t.dayNumber + 1 := by
  rw [CivilTime.valid_iff] at h
  obtain ⟨year, month, day, hour, minute, second⟩ := t
  dsimp only at h wraps
  obtain ⟨y1, y2, m1, m2, d1, d2, -⟩ := h
  unfold CivilTime.nextDay
  dsimp only
  split
  · simp only [CivilTime.dayNumber]; omega
  · obtain ⟨m, rfl⟩ := Nat.exists_eq_add_of_le' m1
    split
    · simp only [CivilTime.dayNumber, daysBeforeMonth]; omega
    · obtain rfl : m = 11 := by omega
      have last : monthLength year (11 + 1) = 31 := rfl
      obtain rfl : day = 31 := by omega
      have early : year < 2099 := by omega
      rw [if_pos early]
      simp only [CivilTime.dayNumber, daysBeforeMonth, daysBeforeYear, monthLength, leapYear, beq_iff_eq]
      split <;> omega

theorem CivilTime.nextDay_hms (t : CivilTime) :
    t.nextDay.hour = t.hour ∧ t.nextDay.minute = t.minute ∧ t.nextDay.second = t.second := by
  unfold CivilTime.nextDay
  repeat' split
  all_goals exact ⟨rfl, rfl, rfl⟩

/-- A new second is one second later, counting from the beginning of 2000, but for the wrap at the end of 2099 (R46, R47). -/
theorem CivilTime.nextSecond_seconds {t : CivilTime} (h : t.valid = true) (wraps : t ≠ ⟨2099, 12, 31, 23, 59, 59⟩) :
    t.nextSecond.dayNumber * 86400 + t.nextSecond.hour * 3600 + t.nextSecond.minute * 60 + t.nextSecond.second =
      t.dayNumber * 86400 + t.hour * 3600 + t.minute * 60 + t.second + 1 := by
  have ranges := (CivilTime.valid_iff t).1 h
  unfold CivilTime.nextSecond
  split
  · simp only [CivilTime.dayNumber]; omega
  · split
    · simp only [CivilTime.dayNumber]; omega
    · split
      · simp only [CivilTime.dayNumber]; omega
      · let midnight : CivilTime := { t with second := 0, minute := 0, hour := 0 }
        have valid : midnight.valid = true := by rw [CivilTime.valid_iff] at *; exact ⟨h.1, by simp [midnight]; omega⟩
        have day := midnight.nextDay_dayNumber valid fun ⟨y, m, d⟩ => wraps <| by
          obtain ⟨year, month, day, hour, minute, second⟩ := t
          simp only [midnight] at *
          congr <;> omega
        obtain ⟨hour, minute, second⟩ := midnight.nextDay_hms
        have same : midnight.dayNumber = t.dayNumber := rfl
        change midnight.nextDay.dayNumber * _ + midnight.nextDay.hour * _ + midnight.nextDay.minute * _ + _ = _
        rw [day, hour, minute, second, same]
        simp only [midnight]
        omega

theorem monthLength_eq (y m : Nat) :
    monthLength y m =
      if m ∈ [4, 6, 9, 11] then 30 else if m = 2 then (if y % 4 = 0 then 29 else 28) else 31 := by
  unfold monthLength leapYear
  split <;> simp_all

/-- Settles O27: the calendar's step from its two carries, the day's and the second's. -/
theorem calendarAdvancesBySeconds : Obligations.CalendarAdvancesBySeconds := by
  refine ⟨fun y m => ⟨fun h => ?_, fun h => ?_, fun h => ?_, fun h => ?_⟩, fun t => ?_, fun t valid => ?_⟩
  · simp only [List.mem_cons, List.not_mem_nil, or_false] at h
    rcases h with rfl | rfl | rfl | rfl | rfl | rfl | rfl <;> rfl
  · rw [monthLength_eq, if_pos h]
  · simp [monthLength_eq, h]
  · simp [monthLength_eq, h]
  · rw [CivilTime.valid_iff, monthLength_eq]
  · exact ⟨CivilTime.nextSecond_valid valid, CivilTime.nextSecond_seconds valid, fun last => by subst last; rfl, rfl, rfl⟩

/-! ### The clock's events (R46, R49, R50, R60) -/

/-- Settles O28: the three events of the clock, an evaluation following a minute rollover (R60). -/
theorem clockEventsMoveTheClock : Obligations.ClockEventsMoveTheClock := by
  refine ⟨fun s runs => ?_, fun s n run runs => ?_, fun s failed invalid => ?_⟩
  · let m : State := { s with clock := { s.clock with prescaler := 0, time := s.clock.time.nextSecond } }
    have taken : exec .secondRollover s = .next (if s.clock.time.endsMinute && s.clock.valid then m.evaluate else m) := by
      change Host.Outcome.next (if s.clock.failed = true then s else s.secondRollover) = _
      rw [if_neg (by simp [runs])]
      rfl
    refine ⟨_, m, taken, rfl, fun second valid => ?_, fun h => ?_⟩
    · rw [if_pos (by simp [CivilTime.endsMinute, second, valid])]
      exact m.evaluate_evaluated
    · rw [if_neg]
      simp only [CivilTime.endsMinute, Bool.and_eq_true, decide_eq_true_eq, not_and]
      rcases h with early | invalid
      · omega
      · simp [invalid]
  · change Host.Outcome.next _ = _
    rw [if_pos (by simp [State.running, run, runs])]
    cases valid : s.clock.valid <;> rfl
  · change Host.Outcome.next _ = _
    rw [if_pos failed]
    dsimp only
    split
    · simp [State.withClock]
    · simp [State.withClock, State.secondRollover, invalid]

/-! ### Which entry an evaluation chooses (R61) -/

/-- Settles O29: the two scans of R61, today's entries before yesterday's. -/
theorem evaluationChoosesTheLatestStart : Obligations.EvaluationChoosesTheLatestStart := by
  intro time table takesPart start matching today lastMonth yesterday chosen
  have today_iff (i : Fin 24) : EpochEntry.today time (table.get i) = true ↔ today i := by
    simp only [EpochEntry.today, EpochEntry.takesPart, onDay, Bool.and_eq_true, decide_eq_true_eq, EpochEntry.passes_iff]
    exact and_assoc
  have yesterday_iff (i : Fin 24) : EpochEntry.yesterday time (table.get i) = true ↔ yesterday i := by
    simp only [EpochEntry.yesterday, EpochEntry.takesPart, onDay, Bool.and_eq_true, EpochEntry.passes_iff]
    exact .rfl
  obtain ⟨noToday, someToday⟩ := chooseEpoch_spec table (EpochEntry.today time)
  obtain ⟨noYesterday, someYesterday⟩ := chooseEpoch_spec table (EpochEntry.yesterday time)
  have none_today (h : ∀ i, ¬today i) : chooseEpoch table (EpochEntry.today time) = none := by
    cases e : chooseEpoch table (EpochEntry.today time) with
    | none => rfl
    | some i => exact absurd ((today_iff i).1 (someToday i e).1) (h i)
  refine ⟨fun ⟨j, hj⟩ => ?_, fun h ⟨j, hj⟩ => ?_, fun h h' => ?_⟩
  · cases e : chooseEpoch table (EpochEntry.today time) with
    | none => exact absurd ((today_iff j).2 hj) (by simp [noToday e j])
    | some i =>
      obtain ⟨member, best⟩ := someToday i e
      exact ⟨i, (today_iff i).1 member, fun j hj => best j ((today_iff j).2 hj), by simp only [evaluateTable, e]; rfl⟩
  · cases e : chooseEpoch table (EpochEntry.yesterday time) with
    | none => exact absurd ((yesterday_iff j).2 hj) (by simp [noYesterday e j])
    | some i =>
      obtain ⟨member, best⟩ := someYesterday i e
      exact ⟨i, (yesterday_iff i).1 member, fun j hj => best j ((yesterday_iff j).2 hj), by
        simp only [evaluateTable, none_today h, e]; rfl⟩
  · cases e : chooseEpoch table (EpochEntry.yesterday time) with
    | none => simp only [evaluateTable, none_today h, e]
    | some i => exact absurd ((yesterday_iff i).1 (someYesterday i e).1) (h' i)

/-! ### The contents of the entries (R56, R62) -/

/-- The stored contents of an entry: its fields and its parity (R56). -/
def EpochEntry.contents (e : EpochEntry) : EpochFields × Nat := (e.fields, e.parity)

theorem ClockMove.contents_eq (h : ClockMove c k k') (i : Fin 24) :
    (k'.epochs.get i).contents = (k.epochs.get i).contents ∨ (∃ p, c = .epochWrite p ∨ c = .epochErase p) ∨
      (∃ x, c = .backupStorageDisturbance i x) ∨ ∃ a o, c = .mainResetEnd a o := by
  cases h with
  | evaluated epochs kept => exact .inl (Prod.ext (kept i).1 (kept i).2)
  | ticked | edge | failed | loaded => exact .inl rfl
  | stored j f inRange own => exact .inr (.inl own)
  | disturbed j x own =>
    by_cases hj : i = j
    · exact .inr (.inr (.inl ⟨x, hj ▸ own⟩))
    · exact .inl (by simp [hj])
  | lost own => exact .inr (.inr (.inr own))

theorem ClockChange.contents_eq (h : ClockChange c k k') (i : Fin 24) :
    (k'.epochs.get i).contents = (k.epochs.get i).contents ∨ (∃ p, c = .epochWrite p ∨ c = .epochErase p) ∨
      (∃ x, c = .backupStorageDisturbance i x) ∨ ∃ a o, c = .mainResetEnd a o := by
  induction h with
  | refl => exact .inl rfl
  | tail _ move ih =>
    rcases move.contents_eq i with same | own
    · exact same ▸ ih
    · exact .inr own

/-- After an evaluation with the clock valid and no main reset under way nothing is left to report (R62). -/
theorem State.parityDue_evaluate {s : State} (valid : s.clock.valid = true) (run : s.supply.inReset = false) :
    parityDue s.evaluate = [] := by
  obtain ⟨-, -, -, entries, -⟩ := s.evaluate_evaluated
  rw [List.eq_nil_iff_forall_not_mem]
  intro i due
  rw [mem_parityDue, entries i] at due
  simp only [EpochEntry.toReport, valid, run, EpochEntry.passes, Bool.and_eq_true, Bool.not_eq_true', Bool.or_eq_false_iff,
    Bool.and_eq_false_imp, Bool.not_false, decide_eq_false_iff_not] at due
  obtain ⟨⟨inUse, fails⟩, fresh, unmarked⟩ := due
  exact unmarked (by simp) ((mem_parityDue s i).2 (by simp [EpochEntry.toReport, EpochEntry.passes, inUse, fails, fresh]))

theorem State.evaluate_valid (s : State) : s.evaluate.clock.valid = s.clock.valid := by
  obtain ⟨-, clock, -⟩ := s.evaluate_evaluated
  rw [clock]

/-- Settles O30: a disturbance, the moves that change contents, and an evaluation's reports. -/
theorem damagedEntriesAreSkippedAndReportedOnce : Obligations.DamagedEntriesAreSkippedAndReportedOnce := by
  refine ⟨fun s i x => rfl, EpochEntry.passes_iff, fun c s t i h changed => ?_, fun s => ?_⟩
  · rcases (exec_clock h).contents_eq i with same | own
    · simp only [EpochEntry.contents, Prod.mk.injEq] at same
      exact absurd changed (by simp [same])
    · exact own
  · refine ⟨s.evaluate_evaluated, fun a active => ?_, fun run => ?_⟩
    · obtain ⟨-, -, chosen, -⟩ := s.evaluate_evaluated
      rw [chosen] at active
      split at active
      · have part := (evaluateTable_some active).2
        simpa [EpochEntry.takesPart, EpochEntry.passes_iff] using part
      · cases active
    · obtain ⟨-, -, -, -, records⟩ := s.evaluate.evaluate_evaluated
      rw [records, State.evaluate_valid]
      cases valid : s.clock.valid
      · simp
      · simp [s.parityDue_evaluate valid run]

end Sys2Proof.Machine
end

section
/-! PROOF. O11, O31, O32 and O33: what an uptime second and an EBLANK level leave, each in one equation (R71, R74, R75, R77, R78,
R162), the ways in which a command can change Authority Control, said once for all commands, and what each of them keeps of its
ranges and conditions (R65, R66, R74, R78, R82). -/

namespace Sys2Proof.Machine

variable {c : Instr} {s t : State} {a b : Authority} {p : Port} {row : CatalogueRow} {e : Override} {l : List Override}

/-! ### The uptime second (R71, R74, R75, R161, R162) -/

theorem Lifetime.countDown_eq (x : Lifetime) :
    x.countDown = match x with
      | .never => .never
      | .seconds n => .seconds (n - 1) := by
  rcases x with _ | _ | n <;> rfl

theorem Presence.countDown_eq (x : Presence) :
    x.countDown = match x with
      | .disabled => .disabled
      | .seconds n => .seconds (n - 1) := by
  rcases x with _ | _ | n <;> rfl

/-- The Presence Timer runs out in NORMAL alone (R75). -/
theorem State.presenceRunOut_eq (s : State) :
    s.presenceRunOut =
      if s.authority.mode = .normal ∧ s.authority.presence = .seconds 0 then
        { s with
          authority := { s.authority with mode := .failsafe, origin := .presence }
          recorder :=
            { s.recorder with conditions := { s.recorder.conditions with failsafe := true } }.append
              (deviceRecord s.now .failsafe .raised 0) }
      else s := by
  unfold State.presenceRunOut
  split
  next mode presence => rw [if_pos ⟨mode, presence⟩]; rfl
  next other => rw [if_neg fun ⟨mode, presence⟩ => other mode presence]

/-- The conditions may change before or after the records of one moment. -/
theorem Recorder.appendAll_with_conditions (r : Recorder) (l : List JournalRecord) (k : Conditions) :
    ({ r.appendAll l with conditions := k } : Recorder) = ({ r with conditions := k } : Recorder).appendAll l := by
  induction l generalizing r with
  | nil => rfl
  | cons x l ih => rw [Recorder.appendAll_cons, ih, Recorder.append_with_conditions, Recorder.appendAll_cons]

@[simp] theorem Recorder.appendAll_conditions (r : Recorder) (l : List JournalRecord) :
    (r.appendAll l).conditions = r.conditions := by
  induction l generalizing r with
  | nil => rfl
  | cons x l ih => rw [Recorder.appendAll_cons, ih, Recorder.append_conditions]

/-- What Authority Control does at an uptime second (R71, R74, R75). -/
theorem State.authoritySecond_eq (s : State) :
    let counted := s.authority.stack.map fun e => { e with remaining := e.remaining.countDown }
    let runsOut := s.authority.presence = .seconds 1 ∧ s.authority.mode = .normal
    s.authoritySecond =
      { s with
        authority :=
          { s.authority with
            stack := counted.filter fun e => decide (e.remaining ≠ .seconds 0)
            presence := s.authority.presence.countDown
            mode := if runsOut then .failsafe else s.authority.mode
            origin := if runsOut then .presence else s.authority.origin }
        attention := match (counted.filter fun e => decide (e.remaining = .seconds 0)).getLast? with
          | none => s.attention
          | some e => { s.attention with overrideExpired := true, lastExpired := e.id }
        recorder :=
          ({ s.recorder with
            conditions :=
              { s.recorder.conditions with
                failsafe := if runsOut then true else s.recorder.conditions.failsafe } } : Recorder).appendAll
            (if runsOut then [deviceRecord s.now .failsafe .raised 0] else []) } := by
  intro counted runsOut
  unfold State.authoritySecond
  dsimp only
  rw [State.expireOverrides_eq, State.presenceRunOut_eq]
  by_cases one : s.authority.presence = .seconds 1
  · by_cases mode : s.authority.mode = .normal
    · simp [runsOut, one, mode, Presence.countDown, State.now, State.withAuthority, counted] <;> rfl
    · simp [runsOut, one, mode, State.withAuthority, counted] <;> rfl
  · simp [runsOut, one, State.withAuthority, counted] <;> rfl

/-- The battery's measurement at the seconds at which it is due (R162). -/
theorem State.batteryAtSecond_eq (s : State) (mv : Nat) :
    let measured := s.supply.uptime % 60 = 1
    let low := decide (batteryClass mv ≤ 1)
    s.batteryAtSecond mv =
      { s with
        supply := { s.supply with battery := if measured then some (batteryClass mv) else s.supply.battery }
        recorder :=
          ({ s.recorder with
            conditions :=
              { s.recorder.conditions with
                batteryLow := if measured then low else s.recorder.conditions.batteryLow } } : Recorder).appendAll
            (if measured ∧ low ≠ s.recorder.conditions.batteryLow then
              [deviceRecord s.now .batteryLow (if low then .raised else .cleared) (batteryClass mv)] else []) } := by
  intro measured low
  unfold State.batteryAtSecond State.measureBattery
  by_cases due : s.supply.uptime % 60 = 1
  · rw [if_pos due]
    dsimp only
    split
    next same => simp [measured, due, low, same, State.withSupply]
    next other =>
      simp only [measured, due, low, true_and]
      simp [other]
      rfl
  · simp [measured, due]

/-- Settles O31: the two parts of an uptime second touch apart blocks but for the Recorder, so their order shows in the journal
alone. -/
theorem uptimeSecondCountsDownAndMeasures : Obligations.UptimeSecondCountsDownAndMeasures := by
  intro s mv batteryFirst run up cls measured low counted runsOut stamp battery failsafe
  change Host.Outcome.next _ = _
  rw [if_pos (by simp [State.running, run])]
  refine congrArg _ ?_
  cases batteryFirst
  case true =>
    rw [if_pos rfl, State.batteryAtSecond_eq, State.authoritySecond_eq]
    simp only [State.withSupply, Recorder.appendAll_with_conditions, Recorder.appendAll_conditions,
      ← Recorder.appendAll_append, Presence.countDown_eq, Lifetime.countDown_eq]
    rfl
  case false =>
    rw [if_neg Bool.false_ne_true, State.authoritySecond_eq, State.batteryAtSecond_eq]
    simp only [State.withSupply, Recorder.appendAll_with_conditions, Recorder.appendAll_conditions,
      ← Recorder.appendAll_append, Presence.countDown_eq, Lifetime.countDown_eq]
    rfl

/-- Settles O32: both are what the uptime second takes within itself. -/
theorem expiredOverridesLeaveAndSilenceEndsNormal : Obligations.ExpiredOverridesLeaveAndSilenceEndsNormal := by
  refine ⟨fun s e run last => ?expired, fun s run mode presence => ?silent⟩
  case expired =>
    change Host.Outcome.next _ = _
    rw [if_pos (by simp [State.running, run]), State.expireOverrides_eq, last]
  case silent =>
    change Host.Outcome.next _ = _
    rw [if_pos (by simp [State.running, run]), State.presenceRunOut_eq, if_pos ⟨mode, presence⟩]

/-! ### EBLANK (R77, R78, R81) -/

/-- The kill comes into force: the holds of the installed zones of its mask, KILL RAISED, and the condition (R78, R99). -/
theorem State.setAuthority_begins {a : Authority} (before : s.authority.killInForce = false)
    (after : a.killInForce = true) :
    s.setAuthority a =
      { s with
        authority := a
        drive :=
          { s.drive with
            zones := .ofFn fun z =>
              if s.installed z = true ∧ a.kill.mask.getLsbD z.val = true then { s.drive.zones.get z with hold := true }
              else s.drive.zones.get z }
        recorder :=
          { s.recorder with conditions := { s.recorder.conditions with kill := true } }.append
            (deviceRecord s.now .kill .raised a.kill.mask.toNat) } := by
  rw [State.setAuthority_eq]
  simp [before, after]

/-- A kill that stays as it was, under the same mask, changes nothing but Authority Control. -/
theorem State.setAuthority_stays {a : Authority} (same : a.killInForce = s.authority.killInForce)
    (mask : a.kill.mask = s.authority.kill.mask) : s.setAuthority a = s.withAuthority a := by
  unfold State.setAuthority
  cases before : s.authority.killInForce <;> simp [same, before, mask]

/-- The level `high` of EBLANK taken under the polarity in force (R77). -/
theorem Authority.eblankActive_taken (a : Authority) (high : Bool) :
    ({ a with eblank := some high } : Authority).eblankActive = decide (high = true ↔ a.kill.polarity = .activeHigh) :=
  Authority.eblankActive_eq _

/-- An active level taken after an inactive one: LATCH mode sets the latch, and the kill is in force (R77, R78). -/
theorem State.takeEblank_active {high : Bool} (inactive : s.authority.eblankActive = false)
    (active : high = true ↔ s.authority.kill.polarity = .activeHigh) :
    let a : Authority :=
      { s.authority with eblank := some high, latch := s.authority.latch || decide (s.authority.kill.mode = .latch) }
    s.takeEblank high = s.setAuthority a ∧ a.killInForce = true ∧
      (s.authority.killInForce = false ↔ s.authority.kill.mode = .level ∨ s.authority.latch = false) := by
  intro a
  have taken : a.activeAs a.kill.polarity = true := decide_eq_true active
  refine ⟨?_, ?_, ?_⟩
  · unfold State.takeEblank
    simp only [Authority.eblankActive_taken, inactive, decide_eq_true active]
    rfl
  · rw [Authority.killInForce_eq, taken]
    cases mode : s.authority.kill.mode <;> simp [a, mode]
  · rw [Authority.killInForce_eq, ← Authority.eblankActive_eq, inactive]
    cases s.authority.kill.mode <;> simp

/-- An inactive level taken sets no latch (R77, R78). -/
theorem State.takeEblank_inactive {high : Bool} (inactive : high = true ↔ s.authority.kill.polarity = .activeLow) :
    s.takeEblank high = s.setAuthority { s.authority with eblank := some high } ∧
      ({ s.authority with eblank := some high } : Authority).eblankActive = false := by
  have read : ({ s.authority with eblank := some high } : Authority).eblankActive = false := by
    rw [Authority.eblankActive_taken, decide_eq_false_iff_not, inactive]
    cases s.authority.kill.polarity <;> decide
  refine ⟨?_, read⟩
  unfold State.takeEblank
  dsimp only
  rw [read, Bool.and_false, Bool.false_and, Bool.or_false]

/-- Settles O33: at every taken level the kill stays as it was, begins, or ends. -/
theorem eblankEdgesBeginAndEndTheKill : Obligations.EblankEdgesBeginAndEndTheKill := by
  refine ⟨fun s c high run taken active => ?active, fun s high run level inactive => ?inactive,
    fun s high run level inactive => ?first⟩
  case active =>
    intro begins
    have before : s.authority.eblankActive = false := by
      rw [Authority.eblankActive_eq, Authority.activeAs]
      rcases taken with ⟨-, level⟩ | ⟨-, level⟩
      · rw [level, decide_eq_false_iff_not, ← active]
        cases high <;> decide
      · rw [level]
    have ran : exec c s = .next (s.takeEblank high) := by
      rcases taken with ⟨rfl, level⟩ | ⟨rfl, level⟩
      · change Host.Outcome.next _ = _
        simp [level, State.running, run, before]
      · change Host.Outcome.next _ = _
        simp [level, State.running, run]
    obtain ⟨took, after, started⟩ := State.takeEblank_active before active
    rw [ran, took]
    by_cases b : begins
    · rw [State.setAuthority_begins (started.2 b) after]
      simp [b]
    · rw [State.setAuthority_stays (after.trans (Bool.eq_true_of_not_eq_false (mt started.1 b)).symm) rfl]
      simp [b, State.withAuthority]
  case inactive =>
    have before : s.authority.eblankActive = true := by
      rw [Authority.eblankActive_eq, Authority.activeAs, level]
      cases high <;> cases polarity : s.authority.kill.polarity <;> simp_all
    obtain ⟨took, read⟩ := State.takeEblank_inactive inactive
    change Host.Outcome.next _ = _
    simp only [level, State.running, run, before, Bool.not_false, Bool.and_self, if_true, Bool.not_not, took]
    by_cases mode : s.authority.kill.mode = .level
    · rw [State.setAuthority_ends (by rw [Authority.killInForce_eq, ← Authority.eblankActive_eq, if_pos mode, before])
        (by rw [Authority.killInForce_eq, if_pos mode, ← Authority.eblankActive_eq, read]), if_pos mode]
      rfl
    · rw [if_neg mode]
      refine congrArg _ (State.setAuthority_stays ?_ rfl)
      simp [Authority.killInForce_eq, mode]
  case first =>
    have before : s.authority.eblankActive = false := by rw [Authority.eblankActive_eq, Authority.activeAs, level]
    obtain ⟨took, read⟩ := State.takeEblank_inactive inactive
    change Host.Outcome.next _ = _
    simp only [level, State.running, run, Bool.not_false, if_true, took]
    refine congrArg _ (State.setAuthority_stays ?_ rfl)
    rw [Authority.killInForce_eq, Authority.killInForce_eq, ← Authority.eblankActive_eq, ← Authority.eblankActive_eq, read, before]

end Sys2Proof.Machine
end

section
/-! PROOF. O11: the ways in which a command can change Authority Control, said once for all commands, and what each of them keeps of
its ranges and conditions (R65, R66, R74, R78, R82). -/

namespace Sys2Proof.Machine

variable {c : Instr} {s t : State} {a b : Authority} {p : Port} {row : CatalogueRow} {e : Override} {l : List Override}

/-! ### The ways in which a command can change Authority Control -/

/-- The ways in which a part of a command can change Authority Control. -/
inductive AuthorityMove (a : Authority) : Authority → Prop
  /-- R67, R68, R69, R71: entries leave the stack, and a push puts one within its ranges there. -/
  | stacked (l : List Override) (known : ∀ e ∈ l, e ∈ a.stack ∨ e.InRange) : AuthorityMove a { a with stack := l }
  /-- R71, R74, R75: an uptime second counts down, and what comes to its end does so within it. -/
  | counted : AuthorityMove a
      { a with
        stack := (a.stack.map fun e => { e with remaining := e.remaining.countDown }).filter fun e =>
          decide (e.remaining ≠ .seconds 0)
        presence := a.presence.countDown
        mode := if a.presence = .seconds 1 ∧ a.mode = .normal then .failsafe else a.mode
        origin := if a.presence = .seconds 1 ∧ a.mode = .normal then .presence else a.origin }
  /-- R75: the timer stands at 0 in NORMAL. -/
  | ranOut : AuthorityMove a { a with mode := .failsafe, origin := .presence }
  /-- R75: an A-port request is taken. -/
  | heard : AuthorityMove a { a with mode := .normal, origin := .reset, presence := presenceLoad a.settings.window }
  /-- R77, R78: a level of EBLANK is taken; the latch can be set in LATCH mode. -/
  | sampled (high latch : Bool) (latched : latch = true → a.latch = true ∨ a.kill.mode = .latch) :
      AuthorityMove a { a with eblank := some high, latch }
  /-- R80: the kill is set up. -/
  | killSetUp (k : KillSetup) : AuthorityMove a (a.withKill k)
  /-- R79: the latch is released. -/
  | released : AuthorityMove a { a with latch := false }
  /-- R83: the settings are replaced, and the timer is loaded under the new window. -/
  | setUp (x : AuthSettings) (inRange : SettingsLaw x) :
      AuthorityMove a { a with settings := x, presence := presenceLoad x.window }
  /-- R65, R163: a main reset's end, over the backup domain kept or lost. -/
  | wasReset (kill : KillSetup) (settings : AuthSettings) (backup : settings = a.settings ∨ settings = defaultSettings) :
      AuthorityMove a (authorityAfterReset kill settings)

/-- A command changes Authority Control by moves one after another. -/
abbrev AuthorityChange : Authority → Authority → Prop := Relation.ReflTransGen AuthorityMove

theorem AuthorityChange.of_eq (h : b = a) : AuthorityChange a b := h ▸ .refl

theorem AuthorityChange.serve {body : Request → State → State × Response}
    (own : ∀ r, AuthorityChange s.authority (body r s).1.authority) :
    AuthorityChange s.authority (s.serve p row body).authority :=
  serve_keeps (P := fun u => AuthorityChange s.authority u.authority) (fun _ _ kept => kept) .refl own

theorem AuthorityChange.expireOverrides : AuthorityChange s.authority s.expireOverrides.authority := by
  rw [State.expireOverrides_eq]
  exact .single (.stacked _ fun e mem => .inl (List.mem_of_mem_filter mem))

theorem AuthorityChange.presenceRunOut : AuthorityChange s.authority s.presenceRunOut.authority := by
  rw [State.presenceRunOut_eq]
  split
  · exact .single .ranOut
  · exact .refl

theorem AuthorityChange.authoritySecond : AuthorityChange s.authority s.authoritySecond.authority := by
  rw [State.authoritySecond_eq]
  exact .single .counted

theorem AuthorityChange.takeEblank {high : Bool} : AuthorityChange s.authority (s.takeEblank high).authority := by
  unfold State.takeEblank
  dsimp only
  rw [State.setAuthority_authority]
  refine .single (.sampled _ _ fun set => ?_)
  simp only [Bool.or_eq_true, Bool.and_eq_true, decide_eq_true_eq] at set
  exact set.imp_right fun rises => rises.2

/-- The end of a write transaction takes a request at most, which the A-port hears (R75, R146). -/
theorem AuthorityChange.endWrite : AuthorityChange s.authority (s.endWrite p).authority := by
  unfold State.endWrite
  split
  · exact .refl
  · exact .refl
  · rw [State.take_authority]
    split
    · exact .single .heard
    · exact .refl

/-- A push puts its entry on the stack, over entries that stood there (R67, R68). -/
theorem mem_of_pushOverride {stack : List Override} {out : Bool × Nat} (h : pushOverride stack e = some (l, out)) :
    ∀ x ∈ l, x ∈ stack ∨ x = e := by
  have sub (id : Nat) : ∀ x ∈ withoutId stack id ++ [e], x ∈ stack ∨ x = e := fun x mem =>
    (List.mem_append.1 mem).imp (List.mem_of_mem_filter ·) List.mem_singleton.1
  unfold pushOverride at h
  split at h
  · cases h; exact sub _
  · split at h
    · cases h; exact fun x mem => (List.mem_append.1 mem).imp id List.mem_singleton.1
    · split at h
      · cases h
      · split at h
        · cases h; exact sub _
        · cases h

/-- The entry that OVR_PUSH forms lies within its ranges (R66, R67). -/
theorem pushedOverride_inRange {r : Request} (kind : OverrideKind) (ok : ¬(r.u1 0 = 0 ∨ r.mask 2 = 0 ∨ 3 < r.u1 6)) :
    Override.InRange
      { id := r.u1 0, kind, mask := r.mask 2, level := clamp 0 Config.levelMax (r.u2 4), priority := r.u1 6
        remaining := Lifetime.ofWire (r.u2 7) } := by
  simp only [not_or, Nat.not_lt] at ok
  obtain ⟨id, -, priority⟩ := ok
  have wire : (Lifetime.ofWire (r.u2 7)).wire ≤ 65535 ∧ Lifetime.ofWire (r.u2 7) ≠ .seconds 0 := by
    have := r.u2_le 7
    unfold Lifetime.ofWire
    split <;> simp only [Lifetime.wire] <;> simp_all
  exact ⟨Nat.one_le_iff_ne_zero.2 id, Nat.le_of_lt_succ (r.u1_lt 0), Nat.min_le_left .., priority, wire⟩

/-- The settings that AUTH_SETUP stores lie in their ranges (R82, R83). -/
theorem settingsLaw_clamped {r : Request} (above : ¬r.settings.clamped.cut ≤ r.settings.clamped.knee) :
    SettingsLaw r.settings.clamped := by
  rw [r.settings_clamped] at above ⊢
  have up := r.u1_lt 8
  have down := r.u1_lt 11
  unfold SettingsLaw
  dsimp only at above ⊢
  refine ⟨by omega, by omega, ?_, by omega, by omega, by omega, by omega, by omega, by omega, by omega, by omega, by omega,
    by omega, by omega⟩
  split <;> omega

/-- The end of a main reset: Authority Control is reset over the backup domain kept or lost (R65, R163). -/
theorem mainResetEnd_authority {x y : Fin 4} (h : exec (.mainResetEnd x y) s = .next t) :
    AuthorityChange s.authority t.authority := by
  cases h
  unfold State.restoreBackup
  dsimp only
  split
  · rw [State.evaluate_authority]
    cases s.supply.retentionLost
    · exact .single (.wasReset _ _ (.inl rfl))
    · exact .single (.wasReset defaultKill defaultSettings (.inr rfl))
  · exact .refl

/-- What every command can do to Authority Control: fourteen commands reach it. -/
theorem exec_authority (h : exec c s = .next t) : AuthorityChange s.authority t.authority := by
  cases c with
  | mainResetEnd x y => exact mainResetEnd_authority h
  | uptimeSecond mv first =>
    cases h
    split
    · dsimp only
      split
      · refine .trans (AuthorityChange.of_eq ?_) AuthorityChange.authoritySecond
        simp
      · rw [State.batteryAtSecond_authority]
        refine .trans (AuthorityChange.of_eq ?_) AuthorityChange.authoritySecond
        rfl
    · exact .refl
  | overrideExpired =>
    cases h
    split
    · exact .expireOverrides
    · exact .refl
  | presenceTimeout =>
    cases h
    split
    · exact .presenceRunOut
    · exact .refl
  | eblankActiveEdge =>
    cases h
    split
    · split
      · exact .takeEblank
      · exact .refl
    · exact .refl
  | eblankInactiveEdge =>
    cases h
    split
    · split
      · exact .takeEblank
      · exact .refl
    · exact .refl
  | killStartUpTake high =>
    cases h
    split
    · exact .refl
    · split
      · exact .takeEblank
      · exact .refl
  | requestTaken w =>
    cases h
    split
    · cases w with
      | one p => exact .endWrite
      | both => exact .trans AuthorityChange.endWrite AuthorityChange.endWrite
    · exact .refl
  | writeAddress p addr =>
    cases h
    split
    · exact .endWrite
    · exact .refl
  | responseRead p addr =>
    cases h
    split
    · exact .endWrite
    · exact .refl
  | ovrPush p =>
    cases h
    refine .serve fun r => ?_
    dsimp only
    split
    next => exact .refl
    next kind _ =>
      split
      next => exact .refl
      next ok =>
        split
        next => exact .refl
        next l replaced evicted push =>
          refine .single (.stacked _ fun x mem => (mem_of_pushOverride push x mem).imp_right fun pushed => ?_)
          subst pushed
          exact pushedOverride_inRange kind ok
  | ovrRemove p =>
    cases h
    refine .serve fun r => ?_
    dsimp only
    split
    · exact .refl
    · split
      · exact .single (.stacked _ fun x mem => .inl (List.mem_of_mem_filter mem))
      · exact .refl
  | ovrClear p =>
    cases h
    exact .serve fun r => .single (.stacked _ fun x mem => absurd mem List.not_mem_nil)
  | killSetup p =>
    cases h
    refine .serve fun r => ?_
    split
    · split
      · exact .refl
      · rw [State.setAuthority_authority]; exact .single (.killSetUp _)
    · exact .refl
  | killRelease p =>
    cases h
    refine .serve fun r => ?_
    split
    · exact .refl
    · split
      · exact .refl
      · rw [State.setAuthority_authority]; exact .single .released
  | authSetup p =>
    cases h
    refine .serve fun r => ?_
    dsimp only
    split
    next => exact .refl
    next above => exact .single (.setUp _ (settingsLaw_clamped above))
  -- the requests that only read
  | status p | clockRead p | epochRead p | curveRead p | sensorRead p | zoneRead p | gainRead p | levelRead p | ovrList p
  | authRead p | grantRead p | faultRead p => cases h; exact .serve fun _ => .refl
  -- the other requests with a rule of their own
  | clockSet p | epochWrite p | epochErase p | curveWrite p | sensorSetup p | zoneSetup p | gainWrite p | zoneMode p
  | grantSet p | faultSetup p | zoneRearm p | journalRead p | attnRead p | attnMask p | driveSetup p =>
    cases h
    refine .serve fun r => .of_eq ?_
    repeat' ((try dsimp only); split)
    all_goals simp
  -- the events of the other blocks, the data bytes and the resets' beginnings
  | secondRollover | timebaseFirstEdge | timebaseFailure n | backupStorageDisturbance i x
  | resolveExpiry | gateCompletion e0 e1 e2 | periodEnd z | countClockSwitch | fsyncLevelTaken high
  | syncEvent high | syncWatchExpiry | samplePoint z pt current | conversionCompletion code
  | dataByte p b | unknownCode p | deviceReset p | brownOut | mainSupplyRise | resetNAssert | resetNRelease | retentionLoss =>
    cases h
    refine .of_eq ?_
    repeat' ((try dsimp only); split)
    all_goals simp

/-! ### What the moves keep (R65, R66, R74, R78, R82) -/

/-- The ranges and conditions of Authority Control (R65, R66, R74, R75, R78, R82). -/
def Authority.Lawful (a : Authority) : Prop :=
  SettingsLaw a.settings ∧ (∀ e ∈ a.stack, e.InRange) ∧ PresenceLaw a.settings.window a.presence ∧
    (a.mode = .normal → a.origin = .reset ∧ a.presence ≠ .seconds 0) ∧ (a.kill.mode = .level → a.latch = false)

theorem authorityLaw_iff : AuthorityLaw s ↔ s.authority.Lawful := Iff.rfl

/-- A load leaves the timer above 0, DISABLED exactly under a window of 0 (R74). -/
theorem presenceLoad_law (w : Nat) : PresenceLaw w (presenceLoad w) ∧ presenceLoad w ≠ .seconds 0 := by
  unfold presenceLoad PresenceLaw
  split <;> simp_all [Presence.wire]

theorem PresenceLaw.countDown {w : Nat} {x : Presence} (law : PresenceLaw w x) : PresenceLaw w x.countDown := by
  obtain ⟨disabled, most⟩ := law
  rcases x with _ | _ | n
  · exact ⟨disabled, most⟩
  · exact ⟨disabled, most⟩
  · refine ⟨by simpa [Presence.countDown] using disabled, fun _ => ?_⟩
    have := most (by simp)
    simp only [Presence.wire, Presence.countDown] at this ⊢
    omega

theorem Presence.countDown_ne_zero {x : Presence} (above : x ≠ .seconds 0) (running : x ≠ .seconds 1) :
    x.countDown ≠ .seconds 0 := by
  rcases x with _ | _ | _ | n
  · simp [Presence.countDown]
  · exact above
  · exact absurd rfl running
  · simp [Presence.countDown]

/-- An entry that a second leaves on the stack stays within its ranges (R66, R71). -/
theorem Override.InRange.countDown (law : e.InRange) (left : e.remaining.countDown ≠ .seconds 0) :
    Override.InRange { e with remaining := e.remaining.countDown } := by
  obtain ⟨id, idMost, level, priority, wire, -⟩ := law
  refine ⟨id, idMost, level, priority, ?_, left⟩
  rw [Lifetime.countDown_eq]
  dsimp only
  split
  next => exact Nat.zero_le _
  next n remaining =>
    rw [remaining] at wire
    exact (Nat.sub_le n 1).trans wire

theorem AuthorityMove.lawful (h : AuthorityMove a b) (law : a.Lawful) : b.Lawful := by
  obtain ⟨settings, entries, presence, normal, latch⟩ := law
  cases h with
  | stacked l known => exact ⟨settings, fun e mem => (known e mem).elim (entries e) id, presence, normal, latch⟩
  | counted =>
    refine ⟨settings, fun e mem => ?_, presence.countDown, fun mode => ?_, latch⟩
    · obtain ⟨mem, left⟩ := List.mem_filter.1 mem
      obtain ⟨x, held, rfl⟩ := List.mem_map.1 mem
      exact (entries x held).countDown (of_decide_eq_true left)
    · dsimp only at mode ⊢
      split at mode
      · cases mode
      next stays =>
        rw [if_neg stays]
        obtain ⟨origin, above⟩ := normal mode
        exact ⟨origin, Presence.countDown_ne_zero above fun one => stays ⟨one, mode⟩⟩
  | ranOut => exact ⟨settings, entries, presence, by simp, latch⟩
  | heard => exact ⟨settings, entries, (presenceLoad_law _).1, fun _ => ⟨rfl, (presenceLoad_law _).2⟩, latch⟩
  | sampled high latch' latched =>
    refine ⟨settings, entries, presence, normal, fun level => Bool.eq_false_iff.2 fun set => ?_⟩
    rcases latched set with before | mode
    · exact Bool.eq_false_iff.1 (latch level) before
    · exact absurd (mode.symm.trans level) (by decide)
  | killSetUp k =>
    refine ⟨settings, entries, presence, normal, fun level => ?_⟩
    rw [Authority.withKill_eq] at level ⊢
    dsimp only at level ⊢
    unfold Authority.latchUnder
    split
    next => simp [level]
    next same => simp [level, latch (by rw [← not_not.1 same, level])]
  | released => exact ⟨settings, entries, presence, normal, fun _ => rfl⟩
  | setUp x inRange => exact ⟨inRange, entries, (presenceLoad_law _).1, fun mode => ⟨(normal mode).1, (presenceLoad_law _).2⟩, latch⟩
  | wasReset kill x backup =>
    refine ⟨?_, by simp [authorityAfterReset], (presenceLoad_law _).1, by simp [authorityAfterReset], fun _ => rfl⟩
    rcases backup with rfl | rfl
    · exact settings
    · exact (by decide : SettingsLaw defaultSettings)

theorem AuthorityChange.lawful (h : AuthorityChange a b) (law : a.Lawful) : b.Lawful := by
  induction h with
  | refl => exact law
  | tail _ move ih => exact move.lawful ih

/-- Settles O11: every way in which a command can change Authority Control keeps its ranges and conditions. -/
theorem authorityControlKeepsItsLaw : Obligations.AuthorityControlKeepsItsLaw := by
  intro s t law h
  rcases step_cases h with rfl | ⟨c, rest, -, run⟩
  · exact law
  · exact (exec_authority (s := s.withPending rest) run).lawful law

end Sys2Proof.Machine
end

section
/-! PROOF. O58: what DRIVE_SETUP leaves, in one equation (R87, R97, R98). -/

namespace Sys2Proof.Machine

theorem Drive.watching_eq (d : Drive) : d.watching = decide (d.swapMode = .frame ∧ d.edgeMode ≠ .disabled) := by
  rw [Bool.eq_iff_iff, d.watching_iff, decide_eq_true_iff]

/-- What DRIVE_SETUP leaves: the timing whole, no zone armed after a change of the swap mode, a sync-lost condition ended outside
FRAME with an enabled edge mode, and a fresh watch on entering it (R97, R98). -/
theorem State.setDriveTiming_eq (s : State) (f : BaseFrequency) (e : EdgeMode) (m : SwapMode) :
    let watched := s.drive.swapMode = .frame ∧ s.drive.edgeMode ≠ .disabled
    let watches := m = .frame ∧ e ≠ .disabled
    let ends := s.drive.syncLost = true ∧ ¬watches
    s.setDriveTiming f e m =
      { s with
        drive :=
          { s.drive with
            baseFrequency := f, edgeMode := e, swapMode := m
            syncLost := if ends then false else s.drive.syncLost
            syncWatch := if watches ∧ ¬watched then 0 else s.drive.syncWatch
            zones := .ofFn fun z =>
              if m = s.drive.swapMode then s.drive.zones.get z
              else { s.drive.zones.get z with armed := false } }
        recorder :=
          if ends then
            { s.recorder with conditions := { s.recorder.conditions with syncLost := false } }.append
              (deviceRecord s.now .syncLost .cleared 0)
          else s.recorder } := by
  intro watched watches ends
  have zones : (if m = s.drive.swapMode then s.drive.zones
      else s.drive.zones.mapIdx fun _ c => { c with armed := false }) =
      .ofFn fun z => if m = s.drive.swapMode then s.drive.zones.get z
        else { s.drive.zones.get z with armed := false } := by
    split
    · exact (ZoneBank.ofFn_get _).symm
    · rfl
  have watch : (if (!decide watched && decide watches) = true then 0 else s.drive.syncWatch) =
      if watches ∧ ¬watched then 0 else s.drive.syncWatch :=
    if_congr (by simp only [Bool.and_eq_true, Bool.not_eq_true', decide_eq_true_eq, decide_eq_false_iff_not, and_comm])
      rfl rfl
  unfold State.setDriveTiming
  dsimp only
  rw [zones]
  simp only [Drive.watching_eq]
  rw [watch]
  by_cases after : watches
  · have keeps : ¬ends := fun h => h.2 after
    rw [if_pos (decide_eq_true after), if_neg keeps, if_neg keeps]
    rfl
  · rw [if_neg (by rw [decide_eq_false after]; exact Bool.false_ne_true), State.endSyncLost_eq]
    by_cases lost : s.drive.syncLost = true
    · have ended : ends := ⟨lost, after⟩
      rw [if_pos ended, if_pos ended]
      simp only [State.withDrive_drive, lost, if_true]
      rfl
    · have keeps : ¬ends := fun h => lost h.1
      rw [if_neg keeps, if_neg keeps]
      simp only [State.withDrive_drive, Bool.eq_false_iff.2 lost, Bool.false_eq_true, if_false]
      rfl

/-- Settles O58: a change outside the lists is refused, any other stored whole. -/
theorem driveSetupStoresTheTimingWhole : Obligations.DriveSetupStoresTheTimingWhole := by
  refine ⟨fun s p r h n d => ⟨_, rfl, serve_refuses_denied h n d⟩,
    fun s p r admitted => ⟨fun out => ?out, fun f e m hf he hm => ?stored⟩⟩
  case out =>
    refine ⟨_, rfl, serve_refuses admitted ?_⟩
    rcases out with h | h | h
    · rw [BaseFrequency.ofCode_none h]
    · rw [EdgeMode.ofCode_none h]
      split <;> simp_all
    · rw [SwapMode.ofCode_none h]
      split <;> simp_all
  case stored =>
    refine ⟨_, rfl, serve_answers admitted ?_ rfl rfl⟩
    rw [hf, he, hm]
    simp only [BaseFrequency.ofCode_code, EdgeMode.ofCode_code, SwapMode.ofCode_code]
    exact congrArg (·, bare .ok) (State.setDriveTiming_eq ..)

end Sys2Proof.Machine
end

section
/-! PROOF. O12: what each operation that reaches the zones keeps of the ranges of their records, channels, levels and monitor setups
(R2, R85, R88, R103), and that the other commands leave the zones as they are. -/

namespace Sys2Proof.Machine

variable {c : Instr} {s t u : State} {z y : Zone} {p : Port} {row : CatalogueRow} {r : Request}

/-! ### What keeps the ranges -/

/-- From `s` to `t` the ranges of the zones are kept. -/
def RangesKept (s t : State) : Prop := ZoneRangeLaw s → ZoneRangeLaw t

theorem RangesKept.refl : RangesKept s s := id

theorem RangesKept.trans (h : RangesKept s t) (h' : RangesKept t u) : RangesKept s u := h' ∘ h

/-- The ranges are kept zone by zone and for the shared count. -/
theorem RangesKept.of_zones (count : s.drive.sharedCount ≤ 4095 → t.drive.sharedCount ≤ 4095)
    (resolver : ∀ z, (s.resolver.get z).InRange → (t.resolver.get z).InRange)
    (drive : ∀ z, (s.drive.zones.get z).InRange → (t.drive.zones.get z).InRange)
    (monitor : ∀ z, (s.monitor.zones.get z).InRange → (t.monitor.zones.get z).InRange) : RangesKept s t :=
  fun ⟨c, zones⟩ => ⟨count c, fun z => (zones z).imp (resolver z) (And.imp (drive z) (monitor z))⟩

/-- Where no zone's part has changed the ranges are kept. -/
theorem RangesKept.of_same (resolver : t.resolver = s.resolver) (drive : t.drive = s.drive)
    (monitor : t.monitor = s.monitor) : RangesKept s t :=
  .of_zones (by rw [drive]; exact id) (by rw [resolver]; exact fun _ => id) (by rw [drive]; exact fun _ => id)
    (by rw [monitor]; exact fun _ => id)

theorem RangesKept.serve {body : Request → State → State × Response} (own : ∀ r, RangesKept s (body r s).1) :
    RangesKept s (s.serve p row body) :=
  serve_keeps (P := RangesKept s) (fun _ _ kept => kept) .refl own

theorem State.modChannel_rangesKept {f : Channel → Channel} (kept : ∀ x : Channel, x.InRange → (f x).InRange) :
    RangesKept s (s.modChannel z f) :=
  .of_zones id (fun _ => id)
    (fun y => by
      simp only [State.modChannel, State.withDrive, ZoneBank.get_set]
      split
      next h => subst h; exact kept _
      next => exact id)
    fun _ => id

theorem State.modMonitor_rangesKept {f : MonitorZone → MonitorZone} (kept : ∀ x : MonitorZone, x.InRange → (f x).InRange) :
    RangesKept s (s.modMonitor z f) :=
  .of_zones id (fun _ => id) (fun _ => id) fun y => by
    simp only [State.modMonitor, State.withMonitor, ZoneBank.get_set]
    split
    next h => subst h; exact kept _
    next => exact id

/-- A channel that changes none of the ranged fields keeps their ranges. -/
theorem Channel.InRange.congr {x y : Channel} (h : x.InRange) (record : y.record = x.record) (phase : y.phase = x.phase)
    (active : y.activeDuty = x.activeDuty) (buffer : y.dutyBuffer = x.dutyBuffer) : y.InRange := by
  unfold Channel.InRange
  rwa [record, phase, active, buffer]

/-! ### What the shared operations keep -/

theorem State.lockOut_rangesKept : RangesKept s (s.lockOut z) :=
  .trans (t := s.modMonitor z fun m => { m with lockout := true, window := .idle })
    (State.modMonitor_rangesKept fun _ => id) (State.modChannel_rangesKept fun _ => id)

/-- The Fault Table and the journal hold no range of a zone. -/
theorem State.qualify_rangesKept {k : FaultKind} {o : SampleOutcome} {d : Nat} : RangesKept s (s.qualify z k o d) := by
  cases o with
  | none => exact .refl
  | good =>
    simp only [State.qualify]
    repeat' split
    all_goals exact .of_same rfl rfl rfl
  | bad =>
    simp only [State.qualify]
    split
    · exact .of_same rfl rfl rfl
    · split
      · exact .of_same rfl rfl rfl
      · split
        · exact .trans (t := (s.setCount z k s.monitor.limit).assertFault z k d) (.of_same rfl rfl rfl)
            State.lockOut_rangesKept
        · exact .of_same rfl rfl rfl

/-- The kill formed afresh sets force holds alone (R99). -/
theorem State.setAuthority_rangesKept {a : Authority} : RangesKept s (s.setAuthority a) := by
  refine .of_zones ?_ (fun z => ?_) (fun z => ?_) (fun z => ?_)
  · rw [State.setAuthority_eq]; exact id
  · rw [State.setAuthority_eq]; exact id
  · rw [State.setAuthority_channel]
    split <;> exact id
  · rw [State.setAuthority_eq]; exact id

theorem State.endSyncLost_rangesKept : RangesKept s s.endSyncLost := by
  rw [State.endSyncLost_eq]
  exact .of_zones id (fun _ => id) (fun _ => id) fun _ => id

/-- A sync event arms channels alone (R96). -/
theorem State.syncEffects_rangesKept : RangesKept s s.syncEffects := by
  by_cases watching : s.drive.watching = true
  · rw [State.syncEffects_eq s watching]
    refine .of_zones id (fun _ => id) (fun z => ?_) fun _ => id
    simp only [ZoneBank.get_ofFn]
    split <;> exact id
  · rw [State.syncEffects, if_neg watching]
    exact .refl

theorem State.takeFsync_rangesKept {high : Bool} : RangesKept s (s.takeFsync high) := by
  have taken : RangesKept s (s.withDrive { s.drive with fsync := some high }) :=
    .of_zones id (fun _ => id) (fun _ => id) fun _ => id
  simp only [State.takeFsync]
  split
  · exact taken
  · split
    · exact taken.trans State.syncEffects_rangesKept
    · exact taken

theorem State.beginReset_rangesKept {source : ResetCause} : RangesKept s (s.beginReset source) :=
  .of_zones id (fun _ => id) (fun z => by simp [State.beginReset]) fun _ => id

/-! ### The Monitor's samples and conversions (R105, R108) -/

theorem countAt_le (phase localCount : Nat) : countAt phase localCount ≤ 4095 :=
  Nat.le_of_lt_succ (Nat.mod_lt _ (by decide))

/-- A sample point sets the shared count that it stands at (R86, R105). -/
theorem State.samplePoint_rangesKept {w : Window} {n : Nat} :
    RangesKept s ((s.modMonitor z fun m => { m with window := w }).withDrive
      { s.drive with sharedCount := countAt (s.drive.zones.get z).phase n }) :=
  .trans (t := s.modMonitor z fun m => { m with window := w }) (State.modMonitor_rangesKept fun _ => id)
    (.of_zones (fun _ => countAt_le _ _) (fun _ => id) (fun _ => id) fun _ => id)

theorem State.sampleOn_rangesKept {n current : Nat} {off : Option Nat} : RangesKept s (s.sampleOn z n off current) := by
  simp only [State.sampleOn]
  split
  · exact State.samplePoint_rangesKept
  · exact .trans (.trans State.samplePoint_rangesKept State.qualify_rangesKept) State.qualify_rangesKept

theorem State.sampleOff_rangesKept {n current : Nat} : RangesKept s (s.sampleOff z n current) :=
  .trans State.samplePoint_rangesKept State.qualify_rangesKept

/-- A conversion is stored with the temperature of its code (R108). -/
theorem State.convert_rangesKept (code : Fin 1024) : RangesKept s (s.convert z code.val) := by
  have stored : RangesKept s (s.modMonitor z fun m => { m with latest := some ⟨code.val, celsiusOf code.val⟩ }) :=
    State.modMonitor_rangesKept fun x ⟨order, short, open_, shortReaction, stuck, overtemp, _⟩ =>
      ⟨order, short, open_, shortReaction, stuck, overtemp, fun c mem => by
        cases Option.mem_some_iff.1 mem
        exact ⟨Nat.le_of_lt_succ code.isLt, rfl⟩⟩
  simp only [State.convert]
  split
  · exact stored
  · exact .trans (.trans stored State.qualify_rangesKept) State.qualify_rangesKept

/-! ### Resolve expiry and period end (R16 to R21, R92) -/

/-- A resolve expiry resolves a zone within its ranges (R16, R18, R21, R22). -/
theorem State.resolveZone_inRange (record : (s.drive.zones.get z).record.lmax ≤ 12000) (gain : (s.resolver.get z).gain ≤ 256) :
    (s.resolveZone z).InRange :=
  ⟨(s.ceilingLimit_le_lmax z).trans record, s.resolveZone_present_le z, s.resolveZone_target_le z, dutyOf_le_full _ _, gain⟩

theorem resolveExpiry_rangesKept (h : exec .resolveExpiry s = .next t) : RangesKept s t := by
  cases run : s.supply.inReset with
  | true =>
    rw [exec_resolveExpiry, execResolveExpiry, if_neg (by simp [State.running, run])] at h
    cases h
    exact .refl
  | false =>
    have resolver := resolver_get_of_resolveExpiry run h
    have drive := drive_get_of_resolveExpiry run h
    rw [exec_resolveExpiry, execResolveExpiry, if_pos (by simp [State.running, run])] at h
    cases h
    rintro ⟨count, zones⟩
    refine ⟨count, fun z => ?_⟩
    obtain ⟨resolved, channel, monitor⟩ := zones z
    obtain ⟨lmaxLeast, lmax, minOn, recPhase, phase, active, buffer⟩ := channel
    obtain ⟨-, -, -, -, gain⟩ := resolved
    refine ⟨?_, ?_, ?_⟩
    · rw [resolver]
      split
      · exact State.resolveZone_inRange lmax gain
      · exact (zones z).1
    · rw [drive]
      split
      · exact ⟨lmaxLeast, lmax, minOn, recPhase, phase, active, dutyOf_le_full _ _⟩
      · exact (zones z).2.1
    · simpa using monitor

@[simp] theorem Channel.beginPeriod_phase (ch : Channel) (autoSwaps : Bool) :
    (ch.beginPeriod autoSwaps).phase = ch.phase := by
  unfold Channel.beginPeriod
  cases ch.firstPeriod <;> cases ch.swapDue autoSwaps <;> rfl

/-- A period end puts a phase, and at a swap a duty, in force that the channel held in range (R91, R92). -/
theorem Channel.InRange.atPeriodEnd {ch : Channel} {forced autoSwaps : Bool} (h : ch.InRange) :
    (ch.atPeriodEnd forced autoSwaps).InRange := by
  have ⟨least, most, minOn, recPhase, phase, active, buffer⟩ := h
  cases on : ch.record.installed with
  | false =>
    rw [Channel.atPeriodEnd_of_off on]
    exact h
  | true =>
    by_cases staged : ch.record.phase = ch.phase
    · obtain ⟨swaps, duty, -, -, -, record, kept, -⟩ := (ch.releaseHold forced).beginPeriod_swaps autoSwaps
      have same : ((ch.releaseHold forced).beginPeriod autoSwaps).phase = ch.phase := by
        rw [Channel.beginPeriod_phase, Channel.releaseHold_phase]
      simp only [Channel.releaseHold_dutyBuffer, Channel.releaseHold_activeDuty, Channel.releaseHold_record]
        at duty kept record
      have full : (if swaps = true then ch.dutyBuffer else ch.activeDuty) ≤ 65535 := by split <;> assumption
      rw [Channel.atPeriodEnd_of_unstaged on staged]
      unfold Channel.InRange
      rw [record, same, duty, kept]
      exact ⟨least, most, minOn, recPhase, phase, full, buffer⟩
    · rw [Channel.atPeriodEnd_of_staged on staged]
      cases forced <;> exact ⟨least, most, minOn, recPhase, recPhase, active, buffer⟩

theorem periodEnd_rangesKept (h : exec (.periodEnd z) s = .next t) : RangesKept s t := by
  cases h
  split
  · refine .trans (t := s.withDrive _) ?_ (State.modMonitor_rangesKept fun _ => id)
    rintro ⟨-, zones⟩
    obtain ⟨-, ⟨-, -, -, -, phase, -⟩, -⟩ := zones z
    refine ⟨phase, fun y => (zones y).imp id (And.imp (fun inRange => ?_) id)⟩
    simp only [State.withDrive, ZoneBank.get_set]
    split
    next same => subst same; exact inRange.atPeriodEnd
    next => exact inRange
  · exact .refl

/-! ### The requests that reach the zones (R7, R88 to R91, R98, R100, R114, R116) -/

theorem gainWrite_rangesKept {mask : ZoneMask} {gain : Nat} (most : gain ≤ 256) :
    RangesKept s (s.withResolver (s.resolver.mapIdx fun z x => if inMask mask z then { x with gain } else x)) := by
  refine .of_zones id (fun z => ?_) (fun _ => id) fun _ => id
  simp only [State.withResolver_resolver, ZoneBank.get_mapIdx]
  split
  · rintro ⟨ceiling, present, target, duty, -⟩
    exact ⟨ceiling, present, target, duty, most⟩
  · exact id

theorem State.setOperator_rangesKept {mask : ZoneMask} {m : OperatorMode} : RangesKept s (s.setOperator mask m) := by
  rw [State.setOperator_eq]
  refine .of_zones id (fun z => ?_) (fun z => ?_) fun _ => id
  all_goals
    simp only [ZoneBank.get_ofFn]
    split <;> exact id

theorem State.setDriveTiming_rangesKept {f : BaseFrequency} {e : EdgeMode} {m : SwapMode} :
    RangesKept s (s.setDriveTiming f e m) := by
  rw [State.setDriveTiming_eq]
  refine .of_zones id (fun _ => id) (fun z => ?_) fun _ => id
  rw [ZoneBank.get_ofFn]
  split <;> exact id

/-- The choices of each reaction (R103). -/
theorem reactionOfCode_choice {k : FaultKind} {n : Nat} {x : Reaction} (h : reactionOfCode k n = some x) :
    (k = .openString → x ≠ .off) ∧ (k = .shortString → x ≠ .none) ∧ (k = .stuckOn ∨ k = .overtemp → x ≠ .dim) := by
  unfold reactionOfCode at h
  split at h <;> cases h <;> decide

/-- Thresholds and reactions that FAULT_SETUP stores are in range (R103, R114). -/
theorem MonitorZone.InRange.withSetup {m : MonitorZone} {a : FaultSetupArgs} (h : m.InRange) (args : r.faultSetup = some a)
    (order : a.openThreshold < a.shortThreshold) : (m.withSetup a).InRange := by
  obtain ⟨-, -, -, -, -, -, latest⟩ := h
  unfold Request.faultSetup at args
  split at args
  next open_ short stuck overtemp =>
    cases args
    exact ⟨order, Nat.le_of_lt_succ (r.u1_lt 3), (reactionOfCode_choice open_).1 rfl, (reactionOfCode_choice short).2.1 rfl,
      (reactionOfCode_choice stuck).2.2 (.inl rfl), (reactionOfCode_choice overtemp).2.2 (.inr rfl), latest⟩
  next => cases args

theorem State.setFaultSetup_rangesKept {mask : ZoneMask} {a : FaultSetupArgs} {q : Nat} (args : r.faultSetup = some a)
    (order : mask ≠ 0 → a.openThreshold < a.shortThreshold) : RangesKept s (s.setFaultSetup mask a q) := by
  have view (z : Zone) := s.setFaultSetup_zoneView mask a q z
  refine .of_zones ?_ (fun z => ?_) (fun z => ?_) fun z => ?_
  · simp [State.setFaultSetup]
    split <;> exact id
  · rw [State.setFaultSetup_resolver]; exact id
  · rw [show (s.setFaultSetup mask a q).drive.zones.get z = _ from congrArg ZoneView.channel (view z)]
    dsimp only
    split <;> exact id
  · rw [show (s.setFaultSetup mask a q).monitor.zones.get z = _ from congrArg ZoneView.monitor (view z)]
    have stored : (s.monitor.zones.get z).InRange → (s.setupAfter mask a z).InRange := by
      unfold State.setupAfter
      split
      next covered => exact fun h => h.withSetup args (order fun empty => by simp [empty, inMask] at covered)
      next => exact id
    dsimp only
    split <;> exact stored

/-- A rearm clears Fault Table entries, and at the end of a lockout changes no ranged field of the zone (R116). -/
theorem State.rearm_rangesKept : RangesKept s (s.rearm z) := by
  have kinds (ks : List FaultKind) : RangesKept s (ks.foldl (fun u k => u.rearmKind z k) s) := by
    induction ks generalizing s with
    | nil => exact .refl
    | cons k ks ih => exact .trans (t := s.rearmKind z k) (.of_same (by simp) (by simp) (by simp)) ih
  have endLockout (u : State) : RangesKept u (u.endLockout z) := by
    refine .of_zones id (fun y => ?_) (fun y => ?_) fun y => ?_
    all_goals
      simp only [State.endLockout, State.modMonitor, State.modChannel, State.withResolver_resolver, State.withResolver_drive,
        State.withResolver_monitor, State.withDrive_drive, State.withDrive_monitor, State.withMonitor_drive,
        State.withMonitor_monitor, ZoneBank.get_set]
      split
      next same => subst same; exact id
      next => exact id
  simp only [State.rearm]
  split
  · exact (kinds _).trans (endLockout _)
  · exact kinds _

/-- An uninstallation clears levels and the temperature (R24, R117). -/
theorem State.clearZone_rangesKept : RangesKept s (s.clearZone z) := by
  refine .of_zones id (fun y => ?_) (fun y => ?_) fun y => ?_
  · rw [show (s.clearZone z).resolver = s.resolver.set z _ from rfl, ZoneBank.get_set]
    split
    next same =>
      subst same
      rintro ⟨-, -, -, -, gain⟩
      exact ⟨Nat.zero_le _, le_rfl, le_rfl, Nat.zero_le _, gain⟩
    next => exact id
  · exact id
  · rw [show (s.clearZone z).monitor.zones = s.monitor.zones.set z _ from rfl, ZoneBank.get_set]
    split
    next same =>
      subst same
      rintro ⟨order, short, open_, shortReaction, stuck, overtemp, -⟩
      exact ⟨order, short, open_, shortReaction, stuck, overtemp, by simp⟩
    next => exact id

theorem State.setZoneRecord_rangesKept {rec : ZoneRecord} (least : 100 ≤ rec.lmax) (most : rec.lmax ≤ 12000)
    (minOn : rec.minOn ≤ 63) (phase : rec.phase ≤ 4095) : RangesKept s (s.setZoneRecord z rec) := by
  have alone : RangesKept s (s.modChannel z fun c => { c with record := rec }) :=
    State.modChannel_rangesKept fun x ⟨_, _, _, _, inForce⟩ => ⟨least, most, minOn, phase, inForce⟩
  unfold State.setZoneRecord
  split
  · exact State.modChannel_rangesKept fun _ _ => ⟨least, most, minOn, phase, phase, Nat.zero_le _, Nat.zero_le _⟩
  · refine .trans (t := s.modChannel z fun c => c.uninstall rec)
      (State.modChannel_rangesKept fun _ _ => ⟨least, most, minOn, phase, phase, Nat.zero_le _, Nat.zero_le _⟩)
      State.clearZone_rangesKept
  · exact alone

theorem resolverZoneAfterReset_inRange : resolverZoneAfterReset.InRange := by decide

theorem monitorZoneAfterReset_inRange : monitorZoneAfterReset.InRange := by
  simp [MonitorZone.InRange, monitorZoneAfterReset]

theorem channelAfterReset_inRange (z : Zone) : (channelAfterReset z).InRange := by
  revert z
  decide

@[simp] theorem State.reportLoss_drive (s : State) (lost : Bool) : (s.reportLoss lost).drive = s.drive := by
  cases lost <;> rfl

/-- The reset values lie within the ranges (R2, R85, R88, R103, R165). -/
theorem mainResetEnd_rangesKept {a o : Fin 4} (h : exec (.mainResetEnd a o) s = .next t) : RangesKept s t := by
  by_cases due : s.supply.inReset = true ∧ s.supply.supplyLow = false ∧ s.supply.pinLow = false
  · obtain ⟨under, supply, pin⟩ := due
    have zones (z : Zone) : (t.resolver.get z).InRange ∧ (t.drive.zones.get z).InRange ∧ (t.monitor.zones.get z).InRange := by
      obtain ⟨k, view⟩ := mainResetEnd_zoneView under supply pin h z
      rw [show t.resolver.get z = _ from congrArg ZoneView.resolver view,
        show t.drive.zones.get z = _ from congrArg ZoneView.channel view,
        show t.monitor.zones.get z = _ from congrArg ZoneView.monitor view]
      exact ⟨resolverZoneAfterReset_inRange, channelAfterReset_inRange z, monitorZoneAfterReset_inRange⟩
    refine fun _ => ⟨?_, zones⟩
    cases h
    rw [if_pos (by simp [under, supply, pin])]
    rw [State.evaluate_drive, State.reportLoss_drive]
    exact Nat.zero_le _
  · cases h
    rw [if_neg (by simpa [and_assoc] using due)]
    exact .refl

/-! ### Every command -/

/-- Every command keeps the ranges. -/
theorem exec_rangesKept (h : exec c s = .next t) : RangesKept s t := by
  cases c with
  | resolveExpiry => exact resolveExpiry_rangesKept h
  | periodEnd z => exact periodEnd_rangesKept h
  | mainResetEnd a o => exact mainResetEnd_rangesKept h
  | samplePoint z pt current =>
    cases h
    split
    · split
      · exact State.sampleOn_rangesKept
      · exact State.sampleOff_rangesKept
      · exact .refl
    · exact .refl
  | conversionCompletion code =>
    cases h
    split
    · exact .refl
    · split
      · refine .trans (t := ite _ _ _) ?_ (.of_zones id (fun _ => id) (fun _ => id) fun _ => id)
        split
        · exact .refl
        · exact State.convert_rangesKept code
      · exact .refl
  | eblankActiveEdge | eblankInactiveEdge =>
    cases h
    split
    · split
      · exact State.setAuthority_rangesKept
      · exact .refl
    · exact .refl
  | killStartUpTake high =>
    cases h
    split
    · exact .refl
    · split
      · exact State.setAuthority_rangesKept
      · exact .refl
  | fsyncLevelTaken high | syncEvent high =>
    cases h
    split
    · exact State.takeFsync_rangesKept
    · exact .refl
  | gainWrite p =>
    cases h
    refine .serve fun r => ?_
    split
    · exact .refl
    · exact gainWrite_rangesKept (Nat.min_le_left ..)
  | zoneMode p =>
    cases h
    refine .serve fun r => ?_
    split
    · exact .refl
    · split
      · exact .refl
      · exact State.setOperator_rangesKept
  | zoneSetup p =>
    cases h
    refine .serve fun r => ?_
    split
    · exact State.setZoneRecord_rangesKept (by simp [clamp]) (by simp [clamp]) (by simp [clamp]) (by simp [clamp])
    · exact .refl
  | killSetup p =>
    cases h
    refine .serve fun r => ?_
    split
    · split
      · exact .refl
      · exact State.setAuthority_rangesKept
    · exact .refl
  | killRelease p =>
    cases h
    refine .serve fun r => ?_
    split
    · exact .refl
    · split
      · exact .refl
      · exact State.setAuthority_rangesKept
  | faultSetup p =>
    cases h
    refine .serve fun r => ?_
    split
    next => exact .refl
    next args =>
      split
      next => exact .refl
      next order => exact State.setFaultSetup_rangesKept args fun mask => not_le.1 fun le => order ⟨mask, le⟩
  | zoneRearm p =>
    cases h
    refine .serve fun r => ?_
    split
    · exact .refl
    · split
      · exact State.rearm_rangesKept
      · exact .refl
  | driveSetup p =>
    cases h
    refine .serve fun r => ?_
    split
    · exact State.setDriveTiming_rangesKept
    · exact .refl
  | deviceReset p =>
    cases h
    split
    · exact .refl
    · split
      · exact .of_same rfl rfl rfl
      · split
        · exact .of_same rfl rfl rfl
        · exact State.beginReset_rangesKept
  | brownOut =>
    cases h
    split
    · exact .refl
    · exact .trans (t := s.beginReset .power) State.beginReset_rangesKept (.of_same rfl rfl rfl)
  | resetNAssert =>
    cases h
    split
    · exact .refl
    · exact .trans (t := s.beginReset .pin) State.beginReset_rangesKept (.of_same rfl rfl rfl)
  | countClockSwitch =>
    cases h
    split
    · exact .of_zones id (fun _ => id) (fun _ => id) fun _ => id
    · exact .refl
  | syncWatchExpiry =>
    cases h
    split
    · exact .of_zones id (fun _ => id) (fun _ => id) fun _ => id
    · exact .refl
  -- the requests that only read
  | status p | clockRead p | epochRead p | curveRead p | sensorRead p | zoneRead p | gainRead p | levelRead p | ovrList p
  | authRead p | grantRead p | faultRead p => cases h; exact .serve fun _ => .refl
  -- the other requests with a rule of their own
  | clockSet p | epochWrite p | epochErase p | curveWrite p | sensorSetup p | ovrPush p | ovrRemove p | ovrClear p
  | authSetup p | grantSet p | journalRead p | attnRead p | attnMask p =>
    cases h
    refine .serve fun r => ?_
    repeat' ((try dsimp only); split)
    all_goals exact .of_same (by simp [State.setGrants_eq]) (by simp [State.setGrants_eq]) (by simp [State.setGrants_eq])
  -- the events that reach no zone
  | gateCompletion e0 e1 e2 | secondRollover | timebaseFailure p | timebaseFirstEdge | backupStorageDisturbance i contents
  | uptimeSecond mv first | overrideExpired | presenceTimeout | writeAddress p addr
  | dataByte p b | requestTaken w | responseRead p addr | unknownCode p | mainSupplyRise | resetNRelease
  | retentionLoss =>
    cases h
    repeat' ((try dsimp only); split)
    all_goals exact .of_same (by simp) (by simp) (by simp)

/-- Settles O12: every command keeps the ranges of the zones. -/
theorem zoneRangesAreKept : Obligations.ZoneRangesAreKept := by
  intro s t law h
  rcases step_cases h with rfl | ⟨c, rest, -, run⟩
  · exact law
  · exact exec_rangesKept (s := s.withPending rest) run law

end Sys2Proof.Machine
end

section
/-! PROOF. O23 to O26: the filter's step in numbers (R38), what fusion and grade are of the valid lux values (R34, R35), and what a
gate completion leaves, in one equation (R26, R29 to R33, R35). -/

namespace Sys2Proof.Machine

variable {s t : State} {alpha e f : Nat} {l : List Nat}

/-! ### The filter's step (R38) -/

/-- Upward the step is the fraction α/16 of the distance, but at least 1, and does not pass F. -/
theorem filterStep_up (pos : 1 ≤ alpha) (full : alpha ≤ 16) (range : f ≤ 120000) (up : e < f) :
    filterStep alpha e f = e + max 1 ((f - e) * alpha / 16) ∧ filterStep alpha e f ≤ f := by
  obtain ⟨d, rfl⟩ := Nat.exists_eq_add_of_lt up
  have least : d + 1 ≤ (d + 1) * alpha := Nat.le_mul_of_pos_right _ pos
  have most : (d + 1) * alpha ≤ (d + 1) * 16 := Nat.mul_le_mul_left _ full
  have distance : ((e + d + 1 : Nat) : Int) - e = ((d + 1 : Nat) : Int) := by omega
  unfold filterStep
  dsimp only
  rw [distance, ← Nat.cast_mul, show e + d + 1 - e = d + 1 by omega]
  generalize (d + 1) * alpha = m at least most ⊢
  simp only [clampInt, Config.luxMax]
  split <;> omega

/-- Downward the step is the fraction α/16 of the distance, rounded away from E_f, and does not pass F. -/
theorem filterStep_down (pos : 1 ≤ alpha) (full : alpha ≤ 16) (range : e ≤ 120000) (down : f < e) :
    (filterStep alpha e f : Int) = e + ((f : Int) - e) * alpha / 16 ∧ f ≤ filterStep alpha e f ∧
      filterStep alpha e f < e := by
  obtain ⟨d, rfl⟩ := Nat.exists_eq_add_of_lt down
  have least : d + 1 ≤ (d + 1) * alpha := Nat.le_mul_of_pos_right _ pos
  have most : (d + 1) * alpha ≤ (d + 1) * 16 := Nat.mul_le_mul_left _ full
  have distance : ((f : Int) - (f + d + 1 : Nat)) * alpha = -(((d + 1) * alpha : Nat) : Int) := by push_cast; ring
  unfold filterStep
  dsimp only
  rw [distance]
  generalize (d + 1) * alpha = m at least most ⊢
  simp only [clampInt, Config.luxMax]
  split <;> omega

theorem filterStep_self (range : e ≤ 120000) : filterStep alpha e e = e := by
  unfold filterStep
  simp [clampInt, Config.luxMax]
  omega

/-- With α 16 the step reaches F at once. -/
theorem filterStep_sixteen (range : f ≤ 120000) : filterStep 16 e f = f := by
  simp only [filterStep, clampInt, Config.luxMax]
  split <;> omega

/-- The distance to F falls by at least 1 at every completion, so it comes to 0. -/
theorem filterStep_reaches (pos : 1 ≤ alpha) (full : alpha ≤ 16) (range : f ≤ 120000) (k : Nat) :
    ∀ e ≤ 120000, e - f + (f - e) ≤ k → ∃ n, (fun x => filterStep alpha x f)^[n] e = f := by
  induction k with
  | zero => exact fun e _ near => ⟨0, by rw [Function.iterate_zero_apply]; omega⟩
  | succ k ih =>
    intro e below near
    rcases Nat.lt_trichotomy e f with up | rfl | down
    · obtain ⟨step, stop⟩ := filterStep_up pos full range up
      obtain ⟨n, reached⟩ := ih (filterStep alpha e f) (filterStep_le ..) (by omega)
      exact ⟨n + 1, by rw [Function.iterate_succ_apply]; exact reached⟩
    · exact ⟨0, rfl⟩
    · obtain ⟨-, stop, step⟩ := filterStep_down pos full below down
      obtain ⟨n, reached⟩ := ih (filterStep alpha e f) (filterStep_le ..) (by omega)
      exact ⟨n + 1, by rw [Function.iterate_succ_apply]; exact reached⟩

/-- Settles O23: the step from below, from above and from F itself, and the distance it takes away. -/
theorem filterMovesTowardTheFusedValue : Obligations.FilterMovesTowardTheFusedValue := by
  intro alpha e f pos full below range
  refine ⟨filterStep_up pos full range, filterStep_down pos full below, ?_, ?_,
    filterStep_reaches pos full range _ e below le_rfl⟩
  · rintro rfl
    exact filterStep_self below
  · rintro rfl
    exact filterStep_sixteen range

/-! ### What a gate completion leaves (R29) -/

/-- The records of a sensor from its reason before a completion and after it (R33). -/
def sensorRecords (at_ : Timestamp) (i : Fin 3) (before after : SensorReason) : List JournalRecord :=
  (if before ≠ after ∧ before.reported = true then
    [deviceRecord at_ .sensorInvalid .cleared (i.val * 16 + before.code)] else []) ++
    (if before ≠ after ∧ after.reported = true then
      [deviceRecord at_ .sensorInvalid .raised (i.val * 16 + after.code)] else [])

/-- The SENSOR_INVALID condition of a sensor after a completion, from its condition and reason before (R33, R122). -/
def sensorCondition (condition : Bool) (before after : SensorReason) : Bool :=
  if before = after then condition
  else if after.reported then true
  else if before.reported then false
  else condition

/-- A condition may be set before or after a record is appended. -/
theorem State.setSensorCondition_report (s : State) (i : Fin 3) (b : Bool) (r : Report) :
    (s.report r).setSensorCondition i b = (s.setSensorCondition i b).report r := by
  simp only [State.setSensorCondition, State.modConditions, State.report, State.withRecorder, Recorder.append_conditions,
    Recorder.append_with_conditions]
  rfl

theorem State.setSensorCondition_twice (s : State) (i : Fin 3) (b b' : Bool) :
    (s.setSensorCondition i b).setSensorCondition i b' = s.setSensorCondition i b' := by
  have set : (s.recorder.conditions.sensorInvalid.set i b).set i b' = s.recorder.conditions.sensorInvalid.set i b' :=
    SensorBank.ext_get _ _ fun j => by
      simp only [SensorBank.get_set]
      split <;> rfl
  simp only [State.setSensorCondition, State.modConditions, State.withRecorder, set]

theorem State.reportSensor_eq (s : State) (i : Fin 3) (before after : SensorReason) :
    s.reportSensor i before after =
      { s with
        recorder :=
          ({ s.recorder with
            conditions :=
              { s.recorder.conditions with
                sensorInvalid :=
                  s.recorder.conditions.sensorInvalid.set i
                    (sensorCondition (s.recorder.conditions.sensorInvalid.get i) before after) } } : Recorder).appendAll
            (sensorRecords s.now i before after) } := by
  have same : s.recorder.conditions.sensorInvalid.set i (s.recorder.conditions.sensorInvalid.get i) =
      s.recorder.conditions.sensorInvalid := SensorBank.ext_get _ _ fun j => by
    rw [SensorBank.get_set]
    split
    next h => rw [h]
    next => rfl
  unfold State.reportSensor sensorRecords sensorCondition
  by_cases kept : before = after
  · simp [kept, same]
  · rw [if_neg kept, if_neg kept]
    cases cleared : before.reported <;> cases raised : after.reported
    · simp [same]
    · simp only [kept, ne_eq, not_false_eq_true, and_self, if_true, Bool.false_eq_true, and_false, if_false]
      rfl
    · simp only [kept, ne_eq, not_false_eq_true, and_self, if_true, Bool.false_eq_true, and_false, if_false]
      rfl
    · simp only [kept, ne_eq, not_false_eq_true, and_self, if_true, State.setSensorCondition_report,
        State.setSensorCondition_twice]
      rfl

/-- A gate completion runs the estimator's stages, reports the sensors in order, and latches GRADE at a drop (R29, R33, R35). -/
theorem gateCompletion_eq (e0 e1 e2 : Nat) (run : s.supply.inReset = false) :
    let m := s.ambient
    let after := m.afterGate s.fallback (SensorBank.get ⟨e0, e1, e2⟩)
    let records (i : Fin 3) := sensorRecords s.now i (m.sensors.get i).reason (after.sensors.get i).reason
    exec (.gateCompletion e0 e1 e2) s = .next
      { s with
        ambient := after
        recorder :=
          ({ s.recorder with
            conditions :=
              { s.recorder.conditions with
                sensorInvalid := .ofFn fun i =>
                  sensorCondition (s.recorder.conditions.sensorInvalid.get i) (m.sensors.get i).reason
                    (after.sensors.get i).reason } } : Recorder).appendAll (records 0 ++ records 1 ++ records 2)
        attention :=
          if after.grade < m.grade then { s.attention with grade := ⟨true, true⟩ } else s.attention } := by
  intro m after records
  have thrice (b : SensorBank Bool) (g : Fin 3 → Bool) : ((b.set 0 (g 0)).set 1 (g 1)).set 2 (g 2) = .ofFn g :=
    SensorBank.ext_get _ _ fun i => by fin_cases i <;> rfl
  have settled : ((((s.withAmbient after).reportSensor 0 m.sensors.e0.reason after.sensors.e0.reason).reportSensor 1
      m.sensors.e1.reason after.sensors.e1.reason).reportSensor 2 m.sensors.e2.reason after.sensors.e2.reason) =
      { s with
        ambient := after
        recorder :=
          ({ s.recorder with
            conditions :=
              { s.recorder.conditions with
                sensorInvalid := .ofFn fun i =>
                  sensorCondition (s.recorder.conditions.sensorInvalid.get i) (m.sensors.get i).reason
                    (after.sensors.get i).reason } } : Recorder).appendAll (records 0 ++ records 1 ++ records 2) } := by
    simp only [State.reportSensor_eq, Recorder.appendAll_with_conditions, Recorder.appendAll_conditions,
      ← Recorder.appendAll_append, List.append_assoc, SensorBank.get_set, Fin.reduceEq, if_false]
    rw [← thrice s.recorder.conditions.sensorInvalid]
    rfl
  change Host.Outcome.next _ = _
  rw [if_pos (by simp [State.running, run])]
  dsimp only
  rw [settled]
  split <;> rfl

/-! ### The sensors (R26, R30 to R32) -/

/-- The stuck counter as R32 says it. -/
theorem stuckAfter_eq (e : SensorSetup) (x : Sensor) (n : Nat) :
    stuckAfter e x n =
      if e.enable = false ∨ n = 0 ∨ n = 262143 then 0
      else if n = x.count ∧ 0 < x.stuck then min 600 (x.stuck + 1) else 1 := by
  unfold stuckAfter
  cases e.enable
  · rfl
  · simp [Config.countStop, Config.stuckStop]

/-- The reason of a sensor as R31 says it. -/
theorem sensorReason_eq (e : SensorSetup) (n stuck : Nat) :
    sensorReason e n stuck =
      if e.enable = false then .disabled
      else if n = 262143 then .saturated
      else if stuck = 600 then .stuck
      else .none := by
  unfold sensorReason
  cases e.enable <;> rfl

/-- Settles O24: a completion applies the staged setup and judges each sensor by its own stages. -/
theorem gateCompletionJudgesEverySensor : Obligations.GateCompletionJudgesEverySensor := by
  intro s e0 e1 e2 run
  refine ⟨_, gateCompletion_eq e0 e1 e2 run, rfl, rfl, rfl, rfl, rfl, fun i => ?_⟩
  dsimp only
  rw [Ambient.afterGate_sensor]
  generalize (s.ambient.afterGate s.fallback _).working.sensors.get i = setup
  exact ⟨rfl, rfl, rfl, stuckAfter_eq .., sensorReason_eq ..⟩

/-! ### Fusion and grade (R34, R35) -/

/-- Of three values at least two lie at or below the median, and at least two at or above it. -/
theorem median_spec (x y z : Nat) :
    median x y z ∈ [x, y, z] ∧ 2 ≤ ([x, y, z].filter (· ≤ median x y z)).length ∧
      2 ≤ ([x, y, z].filter (median x y z ≤ ·)).length := by
  have between : median x y z = x ∧ (y ≤ x ∧ x ≤ z ∨ z ≤ x ∧ x ≤ y) ∨ median x y z = y ∧ (x ≤ y ∧ y ≤ z ∨ z ≤ y ∧ y ≤ x) ∨
      median x y z = z ∧ (x ≤ z ∧ z ≤ y ∨ y ≤ z ∧ z ≤ x) := by
    unfold median
    omega
  rcases between with ⟨h, order⟩ | ⟨h, order⟩ | ⟨h, order⟩ <;> rw [h] <;> rcases order with ⟨below, above⟩ | ⟨above, below⟩ <;>
    simp [List.filter_cons, below, above] <;> repeat' split
  all_goals simp

theorem foldl_max_le_iff {a n : Nat} : l.foldl max a ≤ n ↔ a ≤ n ∧ ∀ x ∈ l, x ≤ n := by
  induction l generalizing a with
  | nil => simp
  | cons y l ih => rw [List.foldl_cons, ih, max_le_iff, List.forall_mem_cons, and_assoc]

theorem le_foldl_min_iff {a n : Nat} : n ≤ l.foldl min a ↔ n ≤ a ∧ ∀ x ∈ l, n ≤ x := by
  induction l generalizing a with
  | nil => simp
  | cons y l ih => rw [List.foldl_cons, ih, le_min_iff, List.forall_mem_cons, and_assoc]

/-- The grade is 2 exactly where at least two values lie within the tolerance of each other (R35). -/
theorem gradeOf_eq_two_iff (range : ∀ x ∈ l, x ≤ 120000) :
    gradeOf f l = 2 ↔ 2 ≤ l.length ∧ ∀ x ∈ l, ∀ y ∈ l, x ≤ y + (f / 4 + 16) := by
  match l with
  | [] => simp [gradeOf]
  | [x] => simp [gradeOf]
  | x :: y :: l' =>
    have spread : (x :: y :: l').foldl max 0 - (x :: y :: l').foldl min Config.luxMax ≤ f / 4 + 16 ↔
        ∀ u ∈ x :: y :: l', ∀ v ∈ x :: y :: l', u ≤ v + (f / 4 + 16) := by
      rw [Nat.sub_le_iff_le_add', foldl_max_le_iff]
      constructor
      · rintro ⟨-, most⟩ u hu v hv
        have least := (le_foldl_min_iff.1 (le_refl ((x :: y :: l').foldl min Config.luxMax))).2 v hv
        exact (most u hu).trans (Nat.add_le_add_right least _)
      · refine fun close => ⟨Nat.zero_le _, fun u hu => ?_⟩
        rw [← Nat.sub_le_iff_le_add, le_foldl_min_iff]
        exact ⟨(Nat.sub_le ..).trans (range u hu), fun v hv => Nat.sub_le_iff_le_add.2 (close u hu v hv)⟩
    simp only [gradeOf]
    rw [← spread]
    simp

/-- The lux values of the valid sensors, as the statement writes them. -/
theorem validLux_eq (b : SensorBank Sensor) :
    (([b.e0, b.e1, b.e2].filter fun x => decide (x.reason = .none)).map Sensor.lux) = validLux b := by
  simp [validLux, beq_eq_decide]

/-- A screened spike keeps E_f, at most twice in a row (R37). -/
theorem screenAndFilter_of_spike {grade spike : Nat} (graded : grade ≠ 0) (high : 4 * e + 64 < f) (room : spike < 2) :
    screenAndFilter alpha grade f (some e) spike = (e, spike + 1) := by
  simp [screenAndFilter, isSpike, graded, high, room]

/-- What is no spike, or the third in a row, or of grade 0, is filtered (R37 to R39). -/
theorem screenAndFilter_of_no_spike {grade spike : Nat} (moves : grade = 0 ∨ f ≤ 4 * e + 64 ∨ 2 ≤ spike) :
    screenAndFilter alpha grade f (some e) spike = (filterStep alpha e f, 0) := by
  simp only [screenAndFilter, isSpike, decide_eq_true_eq]
  exact if_neg (by omega)

theorem Ambient.afterGate_spike (m : Ambient) (fallback : Nat) (edges : Fin 3 → Nat) :
    (m.afterGate fallback edges).spike =
      (screenAndFilter (m.afterGate fallback edges).working.alpha (m.afterGate fallback edges).grade
        (m.afterGate fallback edges).fused m.filtered m.spike).2 := rfl

/-- Without a valid schedule the fallback lux is 400 (R36). -/
theorem State.fallback_of_unscheduled (dark : ¬ScheduleValid s) : s.fallback = 400 := by
  unfold State.fallback
  split
  next e valid active => exact absurd ⟨valid, by simp [active]⟩ dark
  next => rfl

/-- Settles O25: fusion, grade, screen and filter, each by the shape of the valid values. -/
theorem gateCompletionFusesGradesAndFilters : Obligations.GateCompletionFusesGradesAndFilters := by
  intro s e0 e1 e2 run
  refine ⟨_, gateCompletion_eq e0 e1 e2 run, ?_⟩
  dsimp only
  rw [validLux_eq]
  have range : ∀ x ∈ validLux (s.ambient.afterGate s.fallback (SensorBank.get ⟨e0, e1, e2⟩)).sensors, x ≤ 120000 :=
    fun x mem => by
      obtain ⟨i, -, rfl⟩ := mem_validLux.1 mem
      exact Ambient.afterGate_lux_le ..
  have fused := s.ambient.afterGate_fused s.fallback (SensorBank.get ⟨e0, e1, e2⟩)
  refine ⟨fun x y z valid => ?three, fun x y valid => ?two, fun x valid => ?one, fun a valid clock active => ?fallback,
    fun valid dark => ?unscheduled, gradeOf_eq_zero_iff _ _, gradeOf_eq_two_iff range, gradeOf_le _ _, fun unset => ?first,
    fun e set => ⟨fun graded spike room => ?kept, fun moves => ?moved⟩⟩
  case three =>
    rw [fused, valid]
    exact median_spec x y z
  case two => rw [fused, valid]; rfl
  case one => rw [fused, valid]; rfl
  case fallback =>
    rw [fused, valid]
    simp [fuse, State.fallback, clock, active]
  case unscheduled =>
    rw [fused, valid]
    exact State.fallback_of_unscheduled dark
  case first =>
    rw [Ambient.afterGate_filtered, Ambient.afterGate_spike, unset]
    exact ⟨rfl, rfl⟩
  case kept =>
    rw [Ambient.afterGate_filtered, Ambient.afterGate_spike, set, screenAndFilter_of_spike graded spike room]
    exact ⟨rfl, rfl⟩
  case moved =>
    rw [Ambient.afterGate_filtered, Ambient.afterGate_spike, set, screenAndFilter_of_no_spike moves]
    exact ⟨rfl, rfl⟩

theorem SensorReason.reported_eq (x : SensorReason) : x.reported = decide (x = .saturated ∨ x = .stuck) := by
  cases x <;> rfl

/-- The records of a sensor with their details in numbers (R33). -/
theorem sensorRecords_eq (at_ : Timestamp) (i : Fin 3) (before after : SensorReason) :
    sensorRecords at_ i before after =
      (if before ≠ after ∧ decide (before = .saturated ∨ before = .stuck) = true then
        [deviceRecord at_ .sensorInvalid .cleared (i.val * 16 + if before = .saturated then 2 else 3)] else []) ++
        (if before ≠ after ∧ decide (after = .saturated ∨ after = .stuck) = true then
          [deviceRecord at_ .sensorInvalid .raised (i.val * 16 + if after = .saturated then 2 else 3)] else []) := by
  have code {x : SensorReason} (h : x.reported = true) : x.code = if x = .saturated then 2 else 3 := by
    cases x <;> first | rfl | cases h
  simp only [sensorRecords, ← SensorReason.reported_eq]
  congr 1
  · split
    next h => rw [code h.2]
    next => rfl
  · split
    next h => rw [code h.2]
    next => rfl

/-- Settles O26: the records sensor by sensor, and the condition that each sensor's last record leaves. -/
theorem gateCompletionReportsSensorsAndGradeDrops : Obligations.GateCompletionReportsSensorsAndGradeDrops := by
  intro s e0 e1 e2 run
  refine ⟨_, gateCompletion_eq e0 e1 e2 run, ?_⟩
  intro reported old new records
  have told (i : Fin 3) : records i = sensorRecords s.now i (old i) (new i) := (sensorRecords_eq ..).symm
  refine ⟨?_, rfl⟩
  rw [told, told, told]
  dsimp only
  simp only [sensorCondition, SensorReason.reported_eq]
  rfl

end Sys2Proof.Machine
end

section
/-! PROOF. O14: what each operation that reaches a device condition or its owner leaves of both, and that the other commands leave
them as they are (R97, R122). -/

namespace Sys2Proof.Machine

variable {c : Instr} {s t u : State} {z : Zone} {p : Port} {row : CatalogueRow} {r : Request}

/-! ### The conditions and their owners -/

/-- The device conditions with what the blocks that own them hold (R122). -/
structure OwnersView where
  conditions : Conditions
  reasons : Fin 3 → SensorReason
  syncLost : Bool
  swapMode : SwapMode
  edgeMode : EdgeMode
  kill : Bool
  mode : Mode
  clockValid : Bool
  battery : Option Nat
  backupLost : Bool

def State.owners (s : State) : OwnersView :=
  { conditions := s.recorder.conditions, reasons := fun i => (s.ambient.sensors.get i).reason
    syncLost := s.drive.syncLost, swapMode := s.drive.swapMode, edgeMode := s.drive.edgeMode
    kill := s.authority.killInForce, mode := s.authority.mode, clockValid := s.clock.valid, battery := s.supply.battery
    backupLost := s.supply.backupLost }

/-- From `s` to `t` the conditions keep agreeing with their owners. -/
def ConditionsKept (s t : State) : Prop := ConditionsLaw s → ConditionsLaw t

/-- The law speaks of the conditions and their owners alone. -/
theorem conditionsLaw_iff :
    ConditionsLaw s ↔
      (∀ i, s.owners.conditions.sensorInvalid.get i =
        decide (s.owners.reasons i = .saturated ∨ s.owners.reasons i = .stuck)) ∧
      s.owners.conditions.syncLost = s.owners.syncLost ∧ s.owners.conditions.kill = s.owners.kill ∧
      s.owners.conditions.clockInvalid = !s.owners.clockValid ∧
      s.owners.conditions.failsafe = decide (s.owners.mode = .failsafe) ∧
      s.owners.conditions.batteryLow = (s.owners.battery.any fun n => decide (n ≤ 1)) ∧
      s.owners.conditions.backupLost = s.owners.backupLost ∧
      (s.owners.syncLost = true → s.owners.swapMode = .frame ∧ s.owners.edgeMode ≠ .disabled) := Iff.rfl

theorem ConditionsKept.refl : ConditionsKept s s := id

theorem ConditionsKept.trans (h : ConditionsKept s t) (h' : ConditionsKept t u) : ConditionsKept s u := h' ∘ h

theorem ConditionsKept.of_same (h : t.owners = s.owners) : ConditionsKept s t := by
  intro law
  rw [conditionsLaw_iff] at law ⊢
  rwa [h]

theorem ConditionsKept.serve {body : Request → State → State × Response} (own : ∀ r, ConditionsKept s (body r s).1) :
    ConditionsKept s (s.serve p row body) :=
  serve_keeps (P := ConditionsKept s) (fun _ _ kept => kept) .refl own

/-! ### What leaves conditions and owners as they are -/

section

variable (s : State)

@[simp] theorem State.withRecorder_owners (x : Recorder) (h : x.conditions = s.recorder.conditions) :
    (s.withRecorder x).owners = s.owners := by
  simp only [State.owners, State.withRecorder, h]

@[simp] theorem State.report_owners (x : Report) : (s.report x).owners = s.owners :=
  s.withRecorder_owners _ (Recorder.append_conditions ..)

@[simp] theorem State.modChannel_owners (f : Channel → Channel) : (s.modChannel z f).owners = s.owners := rfl
@[simp] theorem State.modMonitor_owners (f : MonitorZone → MonitorZone) : (s.modMonitor z f).owners = s.owners := rfl
@[simp] theorem State.setEntry_owners (k : FaultKind) (e : FaultEntry) : (s.setEntry z k e).owners = s.owners := rfl
@[simp] theorem State.setCount_owners (k : FaultKind) (n : Nat) : (s.setCount z k n).owners = s.owners := rfl
@[simp] theorem State.assertFault_owners (k : FaultKind) (d : Nat) : (s.assertFault z k d).owners = s.owners :=
  State.report_owners ..
@[simp] theorem State.lockOut_owners : (s.lockOut z).owners = s.owners := rfl
@[simp] theorem State.withPorts_owners (x : PortPair LinkPort) : (s.withPorts x).owners = s.owners := rfl
@[simp] theorem State.withStore_owners (x : TableStore) : (s.withStore x).owners = s.owners := rfl
@[simp] theorem State.withResolver_owners (x : ZoneBank ResolverZone) : (s.withResolver x).owners = s.owners := rfl
@[simp] theorem State.withMonitor_owners (x : Monitor) : (s.withMonitor x).owners = s.owners := rfl
@[simp] theorem State.withAttention_owners (x : Attention) : (s.withAttention x).owners = s.owners := rfl
@[simp] theorem State.modPort_owners (p : Port) (f : LinkPort → LinkPort) : (s.modPort p f).owners = s.owners := rfl
@[simp] theorem State.complete_owners (p : Port) (x : Response) : (s.complete p x).owners = s.owners := rfl
@[simp] theorem State.withStack_owners (l : List Override) : (s.withStack l).owners = s.owners := rfl
@[simp] theorem State.loadPresence_owners : s.loadPresence.owners = s.owners := rfl
@[simp] theorem State.latchGrade_owners : s.latchGrade.owners = s.owners := rfl
@[simp] theorem State.beginReset_owners (x : ResetCause) : (s.beginReset x).owners = s.owners := rfl
@[simp] theorem State.setOperator_owners (m : ZoneMask) (o : OperatorMode) : (s.setOperator m o).owners = s.owners := rfl
@[simp] theorem State.clearZone_owners : (s.clearZone z).owners = s.owners := rfl
@[simp] theorem State.endLockout_owners : (s.endLockout z).owners = s.owners := rfl

@[simp] theorem State.withClock_owners (x : ClockUnit) (h : x.valid = s.clock.valid) :
    (s.withClock x).owners = s.owners := by
  simp only [State.owners, State.withClock, h]

@[simp] theorem State.withDrive_zones_owners (x : Drive) (lost : x.syncLost = s.drive.syncLost)
    (swap : x.swapMode = s.drive.swapMode) (edge : x.edgeMode = s.drive.edgeMode) :
    (s.withDrive x).owners = s.owners := by
  simp only [State.owners, State.withDrive, lost, swap, edge]

@[simp] theorem State.reportParity_owners : s.reportParity.owners = s.owners := by
  rw [State.reportParity_eq]
  exact State.withRecorder_owners _ _ (Recorder.appendAll_conditions ..)

@[simp] theorem State.evaluate_owners : s.evaluate.owners = s.owners := by
  simp only [State.evaluate]
  repeat' split
  all_goals simp

@[simp] theorem State.secondRollover_owners : s.secondRollover.owners = s.owners := by
  simp only [State.secondRollover]
  split <;> simp

@[simp] theorem State.storeEpoch_owners (i : Fin 24) (f : EpochFields) : (s.storeEpoch i f).owners = s.owners := by
  simp [State.storeEpoch]

@[simp] theorem State.qualify_owners (k : FaultKind) (o : SampleOutcome) (d : Nat) :
    (s.qualify z k o d).owners = s.owners := by
  cases o <;> simp only [State.qualify]
  all_goals repeat' split
  all_goals simp

@[simp] theorem State.rearmKind_owners (k : FaultKind) : (s.rearmKind z k).owners = s.owners := by
  simp only [State.rearmKind]
  split <;> simp

@[simp] theorem State.rearm_owners : (s.rearm z).owners = s.owners := by
  have kinds (ks : List FaultKind) (s : State) : (ks.foldl (fun u k => u.rearmKind z k) s).owners = s.owners := by
    induction ks generalizing s with
    | nil => rfl
    | cons k ks ih => exact (ih _).trans (s.rearmKind_owners k)
  simp only [State.rearm]
  split <;> simp [kinds]

@[simp] theorem State.setZoneRecord_owners (x : ZoneRecord) : (s.setZoneRecord z x).owners = s.owners := by
  simp only [State.setZoneRecord]
  split <;> simp

@[simp] theorem State.setFaultSetup_owners (m : ZoneMask) (a : FaultSetupArgs) (q : Nat) :
    (s.setFaultSetup m a q).owners = s.owners := by
  simp only [State.setFaultSetup]
  split <;> rfl

@[simp] theorem State.sampleOn_owners (n : Nat) (off : Option Nat) (i : Nat) : (s.sampleOn z n off i).owners = s.owners := by
  simp only [State.sampleOn]
  split
  · rfl
  · rw [State.qualify_owners, State.qualify_owners]
    rfl

@[simp] theorem State.sampleOff_owners (n i : Nat) : (s.sampleOff z n i).owners = s.owners := by
  simp only [State.sampleOff, State.qualify_owners]
  rfl

@[simp] theorem State.convert_owners (code : Nat) : (s.convert z code).owners = s.owners := by
  simp only [State.convert]
  split <;> simp

@[simp] theorem State.setGrants_owners (g : GrantMap) : (s.setGrants g).1.owners = s.owners := by
  rw [State.setGrants_eq]
  simp only [State.owners]
  split <;> rfl

@[simp] theorem State.expireOverrides_owners : s.expireOverrides.owners = s.owners := by
  rw [State.expireOverrides_eq]
  rfl

@[simp] theorem State.handOver_owners (p : Port) : (s.handOver p).owners = s.owners := by
  simp only [State.handOver]
  split <;> simp

end

/-! ### What moves a condition with its owner -/

/-- The kill formed afresh reports what changes it (R78, R122). -/
theorem State.setAuthority_conditionsKept {a : Authority} (mode : a.mode = s.authority.mode) :
    ConditionsKept s (s.setAuthority a) := by
  rintro ⟨sensors, lost, kill, clock, failsafe, rest⟩
  rw [State.setAuthority_eq]
  refine ⟨?_, ?_, ?_, ?_, ?_, ?_⟩ <;> dsimp only <;> rw [Recorder.appendAll_conditions]
  · exact sensors
  · exact lost
  · dsimp only
    rw [kill]
    cases s.authority.killInForce <;> cases a.killInForce <;> simp
  · exact clock
  · dsimp only
    rw [failsafe, mode]
  · exact rest

theorem State.authorityHeard_conditionsKept : ConditionsKept s s.authorityHeard := by
  rintro ⟨sensors, lost, kill, clock, failsafe, rest⟩
  have failsafe' : s.authorityHeard.recorder.conditions.failsafe = false := by
    rw [State.authorityHeard_eq]
    dsimp only
    split
    next => split <;> simp
    next normal => rw [failsafe, decide_eq_false normal]
  have others : s.authorityHeard.recorder.conditions = { s.recorder.conditions with failsafe := false } := by
    rw [State.authorityHeard_eq] at failsafe' ⊢
    dsimp only at failsafe' ⊢
    split
    next => split <;> simp
    next normal => rw [← failsafe', if_neg normal]
  rw [State.authorityHeard_eq] at others ⊢
  dsimp only at others
  refine ⟨?_, ?_, ?_, ?_, ?_, ?_⟩ <;> dsimp only <;> rw [others]
  · exact sensors
  · exact lost
  · exact kill
  · exact clock
  · rfl
  · exact rest

theorem State.presenceRunOut_conditionsKept : ConditionsKept s s.presenceRunOut := by
  rw [State.presenceRunOut_eq]
  split
  · rintro ⟨sensors, lost, kill, clock, failsafe, rest⟩
    refine ⟨?_, ?_, ?_, ?_, ?_, ?_⟩ <;> dsimp only <;> rw [Recorder.append_conditions]
    · exact sensors
    · exact lost
    · exact kill
    · exact clock
    · rfl
    · exact rest
  · exact .refl

theorem State.authoritySecond_conditionsKept : ConditionsKept s s.authoritySecond := by
  rintro ⟨sensors, lost, kill, clock, failsafe, rest⟩
  rw [State.authoritySecond_eq]
  refine ⟨?_, ?_, ?_, ?_, ?_, ?_⟩ <;> dsimp only <;> rw [Recorder.appendAll_conditions]
  · exact sensors
  · exact lost
  · exact kill
  · exact clock
  · dsimp only
    rw [failsafe]
    split <;> rfl
  · exact rest

theorem State.batteryAtSecond_conditionsKept {mv : Nat} : ConditionsKept s (s.batteryAtSecond mv) := by
  rintro ⟨sensors, lost, kill, clock, failsafe, battery, rest⟩
  rw [State.batteryAtSecond_eq]
  refine ⟨?_, ?_, ?_, ?_, ?_, ?_, ?_⟩ <;> dsimp only <;> rw [Recorder.appendAll_conditions]
  · exact sensors
  · exact lost
  · exact kill
  · exact clock
  · exact failsafe
  · dsimp only
    rw [battery]
    split <;> rfl
  · exact rest

/-- A request taken on the A-port ends FAILSAFE with its condition (R75, R122). -/
theorem State.take_conditionsKept : ConditionsKept s (s.take p r) := by
  unfold State.take
  refine ConditionsKept.trans ?_ (.of_same (State.handOver_owners _ _))
  cases p
  · refine .trans ?_ State.authorityHeard_conditionsKept
    exact .of_same rfl
  · exact .of_same rfl

theorem State.endWrite_conditionsKept : ConditionsKept s (s.endWrite p) := by
  unfold State.endWrite
  split
  · exact .refl
  · exact .of_same rfl
  · exact State.take_conditionsKept

/-- A sync-lost condition ends with its condition (R97, R122). -/
theorem State.endSyncLost_conditionsKept : ConditionsKept s s.endSyncLost := by
  rintro ⟨sensors, lost, kill, clock, failsafe, battery, backup, -⟩
  have cleared : s.endSyncLost.recorder.conditions = { s.recorder.conditions with syncLost := false } := by
    rw [State.endSyncLost_eq]
    dsimp only
    split
    · rw [Recorder.append_conditions]
    next held => rw [← Bool.eq_false_iff.2 held, ← lost]
  rw [State.endSyncLost_eq] at cleared ⊢
  dsimp only at cleared
  refine ⟨?_, ?_, ?_, ?_, ?_, ?_, ?_, fun held => Bool.noConfusion held⟩ <;> dsimp only <;> rw [cleared]
  · exact sensors
  · exact kill
  · exact clock
  · exact failsafe
  · exact battery
  · exact backup

theorem State.syncEffects_conditionsKept : ConditionsKept s s.syncEffects := by
  unfold State.syncEffects
  split
  · exact State.endSyncLost_conditionsKept.trans (.of_same rfl)
  · exact .refl

theorem State.takeFsync_conditionsKept {high : Bool} : ConditionsKept s (s.takeFsync high) := by
  have taken : ConditionsKept s (s.withDrive { s.drive with fsync := some high }) := .of_same rfl
  simp only [State.takeFsync]
  split
  · exact taken
  · split
    · exact taken.trans State.syncEffects_conditionsKept
    · exact taken

/-- A drive timing that no longer watches ends a sync-lost condition (R97, R98). -/
theorem State.setDriveTiming_conditionsKept {f : BaseFrequency} {e : EdgeMode} {m : SwapMode} :
    ConditionsKept s (s.setDriveTiming f e m) := by
  rintro ⟨sensors, lost, kill, clock, failsafe, battery, backup, -⟩
  rw [State.setDriveTiming_eq]
  by_cases ends : s.drive.syncLost = true ∧ ¬(m = .frame ∧ e ≠ .disabled)
  · simp only [if_pos ends]
    refine ⟨?_, ?_, ?_, ?_, ?_, ?_, ?_, fun held => Bool.noConfusion held⟩ <;> dsimp only <;> rw [Recorder.append_conditions]
    · exact sensors
    · exact kill
    · exact clock
    · exact failsafe
    · exact battery
    · exact backup
  · simp only [if_neg ends]
    exact ⟨sensors, lost, kill, clock, failsafe, battery, backup, fun held => not_not.1 fun off => ends ⟨held, off⟩⟩

theorem syncWatchExpiry_conditionsKept (h : exec .syncWatchExpiry s = .next t) : ConditionsKept s t := by
  cases h
  split
  next due =>
    simp only [Bool.and_eq_true] at due
    obtain ⟨⟨-, watching⟩, -⟩ := due
    rintro ⟨sensors, lost, kill, clock, failsafe, battery, backup, -⟩
    refine ⟨?_, ?_, ?_, ?_, ?_, ?_, ?_, fun _ => s.drive.watching_iff.1 watching⟩ <;>
      rw [State.report, State.withRecorder_recorder, Recorder.append_conditions]
    · exact sensors
    · rfl
    · exact kill
    · exact clock
    · exact failsafe
    · exact battery
    · exact backup
  next => exact .refl

/-- The condition of a sensor that agreed with its reason agrees with its new one (R33). -/
theorem sensorCondition_reported (before after : SensorReason) :
    sensorCondition before.reported before after = after.reported := by
  unfold sensorCondition
  split
  next same => rw [same]
  next => cases after.reported <;> cases before.reported <;> rfl

/-- A gate completion reports every reason that begins or ends (R33, R122). -/
theorem gateCompletion_conditionsKept {e0 e1 e2 : Nat} (h : exec (.gateCompletion e0 e1 e2) s = .next t) :
    ConditionsKept s t := by
  cases run : s.supply.inReset with
  | true =>
    cases h
    rw [if_neg (by simp [State.running, run])]
    exact .refl
  | false =>
    rw [gateCompletion_eq e0 e1 e2 run] at h
    cases h
    rintro ⟨sensors, rest⟩
    refine ⟨fun i => ?_, ?_⟩ <;> dsimp only <;> rw [Recorder.appendAll_conditions]
    · dsimp only
      rw [SensorBank.get_ofFn, sensors i, ← SensorReason.reported_eq, ← SensorReason.reported_eq]
      exact sensorCondition_reported _ _
    · exact rest

theorem timebaseFailure_conditionsKept {n : Fin 32768} (h : exec (.timebaseFailure n) s = .next t) : ConditionsKept s t := by
  cases h
  dsimp only
  split
  · split
    · rintro ⟨sensors, lost, kill, -, rest⟩
      refine ⟨?_, ?_, ?_, ?_, ?_⟩ <;> rw [State.report, State.withRecorder_recorder, Recorder.append_conditions]
      · exact sensors
      · exact lost
      · exact kill
      · rfl
      · exact rest
    next invalid => exact .of_same (State.withClock_owners _ _ (Bool.eq_false_iff.2 invalid).symm)
  · exact .refl

/-- A clock that CLOCK_SET makes valid clears CLOCK_INVALID (R51, R52, R122). -/
theorem State.setClock_conditionsKept {time : CivilTime} : ConditionsKept s (s.setClock time) := by
  unfold State.setClock
  refine ConditionsKept.trans ?_ (.of_same (State.evaluate_owners _))
  dsimp only
  split
  next valid => exact .of_same (State.withClock_owners _ _ valid.symm)
  next =>
    rintro ⟨sensors, lost, kill, -, rest⟩
    refine ⟨?_, ?_, ?_, ?_, ?_⟩ <;> rw [State.report, State.withRecorder_recorder, Recorder.append_conditions]
    · exact sensors
    · exact lost
    · exact kill
    · rfl
    · exact rest

/-- The reset values of the conditions agree with those of their owners (R122, R165). -/
theorem conditionsLaw_resetMain (lost : Bool) (a o : Fin 4) : ConditionsLaw (s.resetMain lost a o) := by
  refine ⟨fun i => ?_, rfl, ?_, rfl, rfl, rfl, rfl, fun held => Bool.noConfusion held⟩
  · fin_cases i <;> rfl
  · rw [Authority.killInForce_eq]
    exact (ite_self false).symm

theorem mainResetEnd_conditionsKept {a o : Fin 4} (h : exec (.mainResetEnd a o) s = .next t) : ConditionsKept s t := by
  cases h
  dsimp only
  split
  · refine fun _ => ConditionsKept.trans (.of_same ?_) (.of_same (State.evaluate_owners _))
      (conditionsLaw_resetMain (s := s.restoreBackup) s.supply.retentionLost a o)
    cases s.supply.retentionLost
    · rfl
    · exact State.report_owners ..
  · exact .refl

/-! ### Every command -/

/-- Every command keeps the conditions in agreement with their owners. -/
theorem exec_conditionsKept (h : exec c s = .next t) : ConditionsKept s t := by
  cases c with
  | mainResetEnd a o => exact mainResetEnd_conditionsKept h
  | gateCompletion e0 e1 e2 => exact gateCompletion_conditionsKept h
  | timebaseFailure n => exact timebaseFailure_conditionsKept h
  | syncWatchExpiry => exact syncWatchExpiry_conditionsKept h
  | uptimeSecond mv first =>
    cases h
    split
    · have counted : ConditionsKept s (s.withSupply { s.supply with uptime := (s.supply.uptime + 1) % Config.uptimeWrap }) :=
        .of_same rfl
      dsimp only
      split
      · exact (counted.trans State.batteryAtSecond_conditionsKept).trans State.authoritySecond_conditionsKept
      · exact (counted.trans State.authoritySecond_conditionsKept).trans State.batteryAtSecond_conditionsKept
    · exact .refl
  | presenceTimeout =>
    cases h
    split
    · exact State.presenceRunOut_conditionsKept
    · exact .refl
  | eblankActiveEdge | eblankInactiveEdge =>
    cases h
    split
    · split
      · exact State.setAuthority_conditionsKept rfl
      · exact .refl
    · exact .refl
  | killStartUpTake high =>
    cases h
    split
    · exact .refl
    · split
      · exact State.setAuthority_conditionsKept rfl
      · exact .refl
  | requestTaken w =>
    cases h
    split
    · cases w with
      | one p => exact State.endWrite_conditionsKept
      | both => exact State.endWrite_conditionsKept.trans State.endWrite_conditionsKept
    · exact .refl
  | writeAddress p addr | responseRead p addr =>
    cases h
    split
    · exact State.endWrite_conditionsKept.trans (.of_same rfl)
    · exact .refl
  | fsyncLevelTaken high | syncEvent high =>
    cases h
    split
    · exact State.takeFsync_conditionsKept
    · exact .refl
  | clockSet p =>
    cases h
    refine .serve fun r => ?_
    split
    · exact .refl
    · split
      · exact .refl
      · exact State.setClock_conditionsKept
  | killSetup p =>
    cases h
    refine .serve fun r => ?_
    split
    · split
      · exact .refl
      · exact State.setAuthority_conditionsKept rfl
    · exact .refl
  | killRelease p =>
    cases h
    refine .serve fun r => ?_
    split
    · exact .refl
    · split
      · exact .refl
      · exact State.setAuthority_conditionsKept rfl
  | driveSetup p =>
    cases h
    refine .serve fun r => ?_
    split
    · exact State.setDriveTiming_conditionsKept
    · exact .refl
  -- the requests that only read
  | status p | clockRead p | epochRead p | curveRead p | sensorRead p | zoneRead p | gainRead p | levelRead p | ovrList p
  | authRead p | grantRead p | faultRead p => cases h; exact .serve fun _ => .refl
  | timebaseFirstEdge =>
    cases h
    dsimp only
    split
    · split
      · exact .of_same rfl
      · exact .of_same (State.secondRollover_owners _)
    · exact .refl
  | conversionCompletion code =>
    cases h
    split
    · exact .refl
    · split
      · refine .trans (t := ite _ _ _) ?_ (.of_same (State.withMonitor_owners _ _))
        split
        · exact .refl
        · exact .of_same (State.convert_owners ..)
      · exact .refl
  -- the requests that reach no condition and no owner
  | epochWrite p | epochErase p | zoneSetup p | grantSet p | faultSetup p | zoneRearm p =>
    cases h
    refine .serve fun r => ?_
    repeat' ((try dsimp only); split)
    all_goals exact .of_same (by simp)
  | curveWrite p | sensorSetup p | gainWrite p | zoneMode p | ovrPush p | ovrRemove p | ovrClear p | authSetup p
  | journalRead p | attnRead p | attnMask p =>
    cases h
    refine .serve fun r => ?_
    repeat' ((try dsimp only); split)
    all_goals exact .of_same rfl
  -- the other events
  | samplePoint z pt current | secondRollover | overrideExpired =>
    cases h
    repeat' split
    all_goals exact .of_same (by simp)
  | resolveExpiry | periodEnd z | backupStorageDisturbance i contents | countClockSwitch | dataByte p b | unknownCode p
  | deviceReset p | brownOut | mainSupplyRise | resetNAssert | resetNRelease | retentionLoss =>
    cases h
    repeat' split
    all_goals exact .of_same rfl

/-- Settles O14: every command keeps each condition in agreement with the block that owns it. -/
theorem deviceConditionsFollowTheirOwners : Obligations.DeviceConditionsFollowTheirOwners := by
  intro s t law h
  rcases step_cases h with rfl | ⟨c, rest, -, run⟩
  · exact law
  · exact exec_conditionsKept (s := s.withPending rest) run law

end Sys2Proof.Machine
end

section
/-! PROOF. O15, O40, O41 and O42: what the addresses, the bytes and the ends of the bus transactions leave of a port, each in one
equation (R144 to R147, R149), a whole write transaction by induction on its bytes, and that every command keeps the law of the ports
and of the Table Store's selection (R132, R133, R142). -/

namespace Sys2Proof.Machine

variable {c : Instr} {s t u : State} {p q : Port} {row : CatalogueRow} {r : Request}

/-! ### Ports (R144) -/

theorem PortPair.set_set {α : Type} (b : PortPair α) (p : Port) (x y : α) : (b.set p x).set p y = b.set p y := by
  cases p <;> rfl

@[simp] theorem State.modPort_ports (s : State) (p : Port) (f : LinkPort → LinkPort) :
    (s.modPort p f).ports = s.ports.set p (f (s.ports.get p)) := rfl

/-- A port changed is a record update of the ports alone. -/
theorem State.modPort_eq (s : State) (p : Port) (f : LinkPort → LinkPort) :
    s.modPort p f = { s with ports := s.ports.set p (f (s.ports.get p)) } := rfl

/-- A request taken: slot, PENDING, the Table Store's selection where it is IDLE, and on the A-port what ends FAILSAFE (R75, R132,
R146). -/
theorem State.take_eq (s : State) (p : Port) (r : Request) :
    s.take p r =
      { s with
        ports := s.ports.set p { s.ports.get p with receive := .idle, slot := some r, response := bare .pending }
        store := { s.store with serving := some (s.store.serving.getD p) }
        authority :=
          if p = .a then
            { s.authority with mode := .normal, origin := .reset, presence := presenceLoad s.authority.settings.window }
          else s.authority
        recorder :=
          if p = .a ∧ s.authority.mode = .failsafe then
            (let cleared : Recorder :=
              { s.recorder with conditions := { s.recorder.conditions with failsafe := false } }
            if s.authority.origin = .presence then cleared.append (deviceRecord s.now .failsafe .cleared 0)
            else cleared)
          else s.recorder } := by
  have selected (u : State) (h : u.store = s.store) :
      u.handOver p = { u with store := { s.store with serving := some (s.store.serving.getD p) } } := by
    unfold State.handOver
    rw [h]
    cases serving : s.store.serving with
    | none => rfl
    | some q =>
      have same : s.store = { s.store with serving := some q } := by rw [← serving]
      change u = { u with store := { s.store with serving := some q } }
      rw [← same, ← h]
  unfold State.take
  cases p with
  | a =>
    dsimp only
    rw [State.authorityHeard_eq]
    refine (selected _ ?_).trans ?_
    · rfl
    · simp only [State.modPort_authority, State.modPort_recorder, true_and, if_true]
      rfl
  | o =>
    dsimp only
    refine (selected _ ?_).trans ?_
    · rfl
    · rw [if_neg (by decide), if_neg (fun h => Port.noConfusion h.1)]
      rfl

theorem State.endWrite_of_idle (idle : (s.ports.get p).receive = .idle) : s.endWrite p = s := by
  simp [State.endWrite, idle]

theorem State.endWrite_of_no_code {args : List Byte} {n : Nat} (receive : (s.ports.get p).receive = .receiving none args n) :
    s.endWrite p = s.modPort p fun l => { l with receive := .idle } := by
  simp [State.endWrite, receive]

/-- The end of a write keeps every port's address, and the port receives nothing after it (R145, R146). -/
theorem State.endWrite_port (s : State) (p : Port) :
    ((s.endWrite p).ports.get p).address = (s.ports.get p).address ∧ ((s.endWrite p).ports.get p).receive = .idle := by
  cases receive : (s.ports.get p).receive with
  | idle => rw [State.endWrite_of_idle receive]; exact ⟨rfl, receive⟩
  | receiving code args n =>
    cases code with
    | none => rw [State.endWrite_of_no_code receive]; simp
    | some code => rw [State.endWrite_of_code receive, State.take_eq]; simp

/-! ### The commands of a transaction -/

theorem exec_requestTaken_one (run : s.supply.inReset = false) : exec (.requestTaken (.one p)) s = .next (s.endWrite p) := by
  simp [exec, execRequestTaken, State.running, run]

theorem exec_writeAddress (run : s.supply.inReset = false) (addr : Address) :
    exec (.writeAddress p addr) s = .next ((s.endWrite p).modPort p fun l =>
      if addr = l.address ∧ l.slot = none then { l with receive := .receiving none [] 0, lastAck := true }
      else { l with lastAck := false }) := by
  simp [exec, execWriteAddress, State.running, run]

theorem exec_responseRead (run : s.supply.inReset = false) (addr : Address) :
    exec (.responseRead p addr) s = .next ((s.endWrite p).modPort p fun l =>
      if addr = l.address then { l with snapshot := some l.response, lastAck := true }
      else { l with lastAck := false }) := by
  simp [exec, execResponseRead, State.running, run]

theorem exec_dataByte (run : s.supply.inReset = false) {b : Byte} {code : Option Byte} {args : List Byte} {n : Nat}
    (receive : (s.ports.get p).receive = .receiving code args n) :
    exec (.dataByte p b) s = .next (s.modPort p fun l =>
      { l with receive := (Receive.receiving code args n).addByte b, lastAck := true }) := by
  simp [exec, execDataByte, State.running, run, State.modPort, receive]

/-- Settles O40: each command of a write transaction by the receive state that it meets. -/
theorem writeTransactionsAreReceivedAndTaken : Obligations.WriteTransactionsAreReceivedAndTaken := by
  refine ⟨fun s p addr run idle => ?begun, fun s p addr run busy => ?begunAgain, fun s p b run => ⟨fun args n receive => ?code,
    fun c args n receive => ?byte⟩, fun s p args n run receive => ?nothing, fun s p c args n run receive => ?taken,
    fun s t c c' args args' n n' run idle receiveA receiveO h => ?both⟩
  case begun =>
    rw [exec_writeAddress run, State.endWrite_of_idle idle]
    rfl
  case begunAgain =>
    refine ⟨_, exec_requestTaken_one run, ?_⟩
    rw [exec_writeAddress run, ← (s.endWrite_port p).1]
    rfl
  case code =>
    rw [exec_dataByte run receive]
    rfl
  case byte =>
    rw [exec_dataByte run receive]
    rfl
  case nothing =>
    rw [exec_requestTaken_one run, State.endWrite_of_no_code receive]
    rfl
  case taken =>
    rw [exec_requestTaken_one run, State.endWrite_of_code receive, State.take_eq]
    rfl
  case both =>
    have second : ((s.take .a ⟨c, args, n⟩).ports.get .o).receive = .receiving (some c') args' n' := by
      rw [State.take_eq]
      exact receiveO
    have taking : exec (.requestTaken .both) s = .next ((s.take .a ⟨c, args, n⟩).take .o ⟨c', args', n'⟩) := by
      rw [← State.endWrite_of_code second, ← State.endWrite_of_code (s := s) (p := .a) receiveA]
      simp [exec, execRequestTaken, State.running, run]
    rw [taking] at h
    cases h
    rw [State.take_eq, State.take_eq, idle]
    exact ⟨rfl, rfl, rfl⟩

/-! ### A whole write transaction (R145, R146) -/

/-- A write transaction has begun with the port's own address, over a queue. -/
def State.addressed (s : State) (p : Port) (queue : List Instr) : State :=
  { s with
    ports := s.ports.set p { s.ports.get p with receive := .receiving none [] 0, lastAck := true }
    pending := queue }

/-- Within a write transaction whose port has received a code and argument bytes, over a queue. -/
def State.midWrite (s : State) (p : Port) (code : Byte) (args : List Byte) (queue : List Instr) : State :=
  { s with
    ports := s.ports.set p
      { s.ports.get p with
        receive := .receiving (some code) (args.take 48) (min 255 args.length)
        lastAck := true }
    pending := queue }

theorem take_append_byte (args : List Byte) (b : Byte) :
    (if (args.take 48).length < 48 then args.take 48 ++ [b] else args.take 48) = (args ++ [b]).take 48 := by
  rw [List.length_take]
  split
  next room =>
    have short : args.length < 48 := by omega
    rw [List.take_of_length_le short.le, List.take_of_length_le (by simpa using short)]
  next full =>
    rw [List.take_append_of_le_length (by omega)]

/-- One more byte of the transaction. -/
theorem exec_dataByte_midWrite (run : s.supply.inReset = false) (code b : Byte) (args : List Byte) (queue : List Instr) :
    exec (.dataByte p b) (s.midWrite p code args queue) = .next (s.midWrite p code (args ++ [b]) queue) := by
  have receive : ((s.midWrite p code args queue).ports.get p).receive =
      .receiving (some code) (args.take 48) (min 255 args.length) := by
    simp [State.midWrite]
  rw [exec_dataByte (s := s.midWrite p code args queue) run receive]
  have count : min 255 (min 255 args.length + 1) = min 255 (args ++ [b]).length := by
    rw [List.length_append, List.length_singleton]
    omega
  refine congrArg _ ?_
  simp only [State.modPort, State.withPorts, State.midWrite, Receive.addByte, Config.argsStored, Config.byteStop,
    take_append_byte, count, PortPair.set_set, PortPair.get_set, if_true]

theorem run_succ (h : step s = .next t) (k : Nat) :
    Host.Core.run core (k + 1) (s : State) = Host.Core.run core k (t : State) := by
  have first : core.step s = .next t := h
  simp only [Host.Core.run, first]

theorem run_dataBytes (run : s.supply.inReset = false) (code : Byte) (bytes : List Byte) (k : Nat) (queue : List Instr) :
    ∀ args, Host.Core.run core (bytes.length + k) (s.midWrite p code args (bytes.map (Instr.dataByte p) ++ queue) : State) =
      Host.Core.run core k (s.midWrite p code (args ++ bytes) queue : State) := by
  induction bytes with
  | nil => intro args; simp
  | cons b bytes ih =>
    intro args
    have first : step (s.midWrite p code args ((b :: bytes).map (Instr.dataByte p) ++ queue)) =
        .next (s.midWrite p code (args ++ [b]) (bytes.map (Instr.dataByte p) ++ queue)) :=
      exec_dataByte_midWrite run code b args _
    rw [List.length_cons, Nat.add_right_comm, run_succ first, ih, List.append_assoc]
    rfl

/-- Settles O41: the address and the code, the bytes by induction, and the taking at the STOP. -/
theorem requestBytesReachTheSlot : Obligations.RequestBytesReachTheSlot := by
  intro s p code args run empty idle
  have begun (queue : List Instr) :
      step (s.withPending (.writeAddress p (s.ports.get p).address :: queue)) = .next (s.addressed p queue) := by
    change exec (.writeAddress p (s.ports.get p).address) (s.withPending queue) = _
    rw [exec_writeAddress (s := s.withPending queue) run, State.endWrite_of_idle (s := s.withPending queue) idle]
    simp [State.modPort, State.addressed, empty, State.withPorts, State.withPending]
  have coded (queue : List Instr) : step (s.addressed p (.dataByte p code :: queue)) = .next (s.midWrite p code [] queue) := by
    change exec (.dataByte p code) (s.addressed p queue) = _
    rw [exec_dataByte (s := s.addressed p queue) (code := none) (args := []) (n := 0) run (by simp [State.addressed])]
    refine congrArg _ ?_
    simp only [State.modPort, State.withPorts, State.addressed, State.midWrite, Receive.addByte, PortPair.set_set,
      PortPair.get_set, if_true]
    rfl
  have receive : ((s.midWrite p code args []).ports.get p).receive =
      .receiving (some code) (args.take 48) (min 255 args.length) := by simp [State.midWrite]
  have taken : step (s.midWrite p code args [.requestTaken (.one p)]) =
      .next ((s.midWrite p code args []).take p ⟨code, args.take 48, min 255 args.length⟩) := by
    change exec (.requestTaken (.one p)) (s.midWrite p code args []) = _
    rw [exec_requestTaken_one (s := s.midWrite p code args []) run, State.endWrite_of_code receive]
  refine ⟨(s.midWrite p code args []).take p ⟨code, args.take 48, min 255 args.length⟩, ?_, ?_⟩
  · rw [show args.length + 3 = (args.length + 1) + 1 + 1 from rfl, run_succ (begun _), run_succ (coded _),
      run_dataBytes run]
    exact run_succ taken 0
  · rw [State.take_eq]
    refine ⟨rfl, ?_, ?_, ?_, ?_, rfl⟩
    · simp
    · simp [bare]
    · simp
    · cases p <;> rfl

/-! ### A read transaction (R147, R149) -/

/-- The bytes that the master reads are those of the snapshot while the main domain runs (R147). -/
theorem State.readByte_of_snapshot {x : Response} (run : s.supply.inReset = false)
    (snapshot : (s.ports.get p).snapshot = some x) (i : Nat) : s.readByte p i = x.byteAt i := by
  simp [State.readByte, snapshot, run]

/-- No port sends anything in a main reset (R149). -/
theorem State.readByte_of_reset (reset : s.supply.inReset = true) (i : Nat) : s.readByte p i = 0xFF := by
  unfold State.readByte
  split
  · rw [if_pos reset]
  · rfl

/-- A response reads as its status, its length, its data and then 0xFF (R147). -/
theorem Response.byteAt_spec (x : Response) :
    (x.status, (x.byteAt 0).toNat) ∈ statusCodes ∧ x.byteAt 1 = BitVec.ofNat 8 x.data.length ∧
      (∀ i (h : i < x.data.length), x.byteAt (i + 2) = x.data[i]) ∧ ∀ i, x.data.length ≤ i → x.byteAt (i + 2) = 0xFF := by
  have code : ∀ st : Status, (st, (byteOf st.code).toNat) ∈ statusCodes := fun st => by cases st <;> decide
  exact ⟨code x.status, rfl, fun i h => List.getD_eq_getElem _ _ h, fun i h => List.getD_eq_default _ _ h⟩

/-- PENDING reads as its code, no data, and then 0xFF (R147). -/
theorem pending_byteAt : (bare .pending).byteAt 0 = 0x01 ∧ (bare .pending).byteAt 1 = 0x00 ∧
    ∀ i, (bare .pending).byteAt (i + 2) = 0xFF := ⟨rfl, rfl, fun _ => rfl⟩

/-- A read of its own address while the port holds `x` copies `x` whole (R147). -/
theorem readByte_of_responseRead {x : Response} (run : s.supply.inReset = false)
    (response : ((s.endWrite p).ports.get p).response = x)
    (h : exec (.responseRead p (s.ports.get p).address) s = .next t) (i : Nat) : t.readByte p i = x.byteAt i := by
  rw [exec_responseRead run] at h
  cases h
  refine State.readByte_of_snapshot ?_ ?_ i
  · rw [State.modPort_supply, State.endWrite_supply]
    exact run
  · simp [(s.endWrite_port p).1, response]

theorem LinkLaw.port (law : LinkLaw s) (p : Port) : PortLaw (s.ports.get p) := by
  obtain ⟨a, o, -⟩ := law
  cases p
  · exact a
  · exact o

/-- Settles O42: what a read address copies, by the receive state that it meets. -/
theorem readTransactionsSendTheResponse : Obligations.ReadTransactionsSendTheResponse := by
  refine ⟨fun s p run idle => ?own, fun s p addr run idle other => ?other, fun s p addr run busy => ?busy,
    fun s p law => ⟨fun reset => State.readByte_of_reset reset, fun t run full h => ?pending⟩⟩
  case own =>
    have read := exec_responseRead (p := p) run (s.ports.get p).address
    have bytes := readByte_of_responseRead (p := p) run rfl read
    rw [State.endWrite_of_idle idle] at read bytes
    refine ⟨_, read, ?_, ?_⟩
    · simp [State.modPort, State.withPorts]
    · simp only [bytes]
      exact Response.byteAt_spec _
  case other =>
    rw [exec_responseRead run, State.endWrite_of_idle idle]
    simp [State.modPort, State.withPorts, other]
  case busy =>
    refine ⟨_, _, exec_requestTaken_one run, exec_responseRead run addr, ?_, fun c args n receive own => ?_⟩
    · rw [← (s.endWrite_port p).1]
      rfl
    · subst own
      have pending : ((s.endWrite p).ports.get p).response = bare .pending := by
        rw [State.endWrite_of_code receive, State.take_eq]
        simp
      simp only [readByte_of_responseRead run pending (exec_responseRead run _)]
      exact pending_byteAt
  case pending =>
    obtain ⟨r, slot⟩ := Option.isSome_iff_exists.1 full
    obtain ⟨response, idle, -⟩ := (law.port p).1 r slot
    have pending : ((s.endWrite p).ports.get p).response = bare .pending := by
      rw [State.endWrite_of_idle idle]
      exact response
    simp only [readByte_of_responseRead run pending h]
    exact pending_byteAt

/-! ### What keeps the law of the ports and of the selection -/

/-- From `s` to `t` the law of the ports and the Table Store is kept. -/
def LinkKept (s t : State) : Prop := LinkLaw s → LinkLaw t

theorem LinkKept.refl : LinkKept s s := id

theorem LinkKept.trans (h : LinkKept s t) (h' : LinkKept t u) : LinkKept s u := h' ∘ h

/-- The law speaks of the ports, the selection and the main reset alone. -/
theorem LinkKept.of_same (ports : t.ports = s.ports) (serving : t.store.serving = s.store.serving)
    (reset : t.supply.inReset = s.supply.inReset) : LinkKept s t := by
  unfold LinkKept LinkLaw
  rw [ports, serving, reset]
  exact id

/-- The law of the ports, said for either port. -/
theorem linkLaw_iff :
    LinkLaw s ↔ (∀ p, PortLaw (s.ports.get p)) ∧ (∀ p ∈ s.store.serving, (s.ports.get p).slot.isSome = true) ∧
      (s.store.serving = none → ∀ p, (s.ports.get p).slot = none) ∧
      (s.supply.inReset = true → s.store.serving = none ∧ ∀ p, (s.ports.get p).receive = .idle) := by
  have both {q : Port → Prop} : (∀ p, q p) ↔ q .a ∧ q .o := ⟨fun h => ⟨h .a, h .o⟩, fun ⟨a, o⟩ p => by cases p <;> assumption⟩
  simp only [both, and_assoc]
  exact Iff.rfl

/-- A port that receives or sends, its slot as it was, while the main domain runs (R145 to R147). -/
theorem LinkKept.modPort {f : LinkPort → LinkPort} (run : s.supply.inReset = false)
    (slot : (f (s.ports.get p)).slot = (s.ports.get p).slot) (law : PortLaw (s.ports.get p) → PortLaw (f (s.ports.get p))) :
    LinkKept s (s.modPort p f) := by
  intro h
  rw [linkLaw_iff] at h ⊢
  obtain ⟨ports, selected, idle, -⟩ := h
  have slots (q : Port) : ((s.modPort p f).ports.get q).slot = (s.ports.get q).slot := by
    rw [State.modPort_ports, PortPair.get_set]
    split
    next same => rw [same, slot]
    next => rfl
  refine ⟨fun q => ?_, fun q mem => ?_, fun free q => ?_, fun reset => ?_⟩
  · rw [State.modPort_ports, PortPair.get_set]
    split
    next => exact law (ports p)
    next => exact ports q
  · rw [slots]
    exact selected q mem
  · rw [slots]
    exact idle free q
  · exact absurd (run.symm.trans reset) Bool.false_ne_true

theorem selectNext_some {ports : PortPair LinkPort} (h : selectNext ports = some q) : (ports.get q).slot.isSome = true := by
  unfold selectNext at h
  split at h
  next a => cases h; exact a
  next =>
    split at h
    next o => cases h; exact o
    next => cases h

theorem selectNext_none {ports : PortPair LinkPort} (h : selectNext ports = none) (q : Port) : (ports.get q).slot = none := by
  unfold selectNext at h
  split at h
  next => cases h
  next a =>
    split at h
    next => cases h
    next o =>
      cases q
      · simpa [PortPair.get] using a
      · simpa [PortPair.get] using o

theorem complete_ports (s : State) (p : Port) (resp : Response) :
    (s.complete p resp).ports = s.ports.set p { s.ports.get p with slot := none, response := resp } := rfl

/-- A service completes with a response of at most 80 bytes (R132, R133, R144). -/
theorem LinkKept.complete {resp : Response} (run : s.supply.inReset = false) (room : resp.data.length ≤ 80) :
    LinkKept s (s.complete p resp) := by
  intro h
  rw [linkLaw_iff] at h ⊢
  obtain ⟨ports, -, -, -⟩ := h
  refine ⟨fun q => ?_, fun q mem => ?_, fun free q => ?_, fun reset => absurd (run.symm.trans reset) Bool.false_ne_true⟩
  · rw [complete_ports, PortPair.get_set]
    obtain ⟨-, bounded, -⟩ := ports p
    split
    next => exact ⟨fun r mem => (by cases mem), bounded, room⟩
    next => exact ports q
  · exact selectNext_some mem
  · exact selectNext_none free q

/-- A request is taken into an empty slot (R132, R146). -/
theorem LinkKept.take (run : s.supply.inReset = false) (bytes : BytesLaw r.args r.count) : LinkKept s (s.take p r) := by
  intro h
  rw [linkLaw_iff] at h ⊢
  obtain ⟨ports, selected, -, -⟩ := h
  rw [State.take_eq]
  refine ⟨fun q => ?_, fun q mem => ?_, fun free => (by cases free), fun reset => absurd (run.symm.trans reset) Bool.false_ne_true⟩
  · dsimp only
    rw [PortPair.get_set]
    split
    next =>
      refine ⟨fun x mem => ?_, rfl, Nat.zero_le _⟩
      cases mem
      exact ⟨rfl, rfl, bytes⟩
    next => exact ports q
  · dsimp only
    rw [PortPair.get_set]
    split
    next => rfl
    next other =>
      cases serving : s.store.serving with
      | none =>
        rw [serving] at mem
        cases mem
        exact absurd rfl other
      | some x =>
        rw [serving] at mem
        cases mem
        exact selected _ serving

/-- The end of a write transaction takes what has been received, if a code has (R146). -/
theorem LinkKept.endWrite (run : s.supply.inReset = false) : LinkKept s (s.endWrite p) := by
  intro law
  cases receive : (s.ports.get p).receive with
  | idle => rwa [State.endWrite_of_idle receive]
  | receiving code args n =>
    have bounded := (law.port p).2.1
    rw [receive] at bounded
    cases code with
    | none =>
      rw [State.endWrite_of_no_code receive]
      refine LinkKept.modPort run rfl ?_ law
      exact fun ⟨slot, _, response⟩ => ⟨fun r mem => ⟨(slot r mem).1, rfl, (slot r mem).2.2⟩, rfl, response⟩
    | some code =>
      rw [State.endWrite_of_code receive]
      exact LinkKept.take run (of_decide_eq_true bounded) law

/-- A main reset begins: every slot and every transaction is abandoned (R142, R149). -/
theorem LinkKept.beginReset (source : ResetCause) : LinkKept s (s.beginReset source) := by
  intro h
  rw [linkLaw_iff] at h ⊢
  obtain ⟨ports, -, -, -⟩ := h
  have port (q : Port) : (s.beginReset source).ports.get q = (s.ports.get q).abandon := by cases q <;> rfl
  refine ⟨fun q => ?_, fun q mem => (by cases mem), fun _ q => ?_, fun _ => ⟨rfl, fun q => ?_⟩⟩ <;> rw [port]
  · exact ⟨fun r mem => (by cases mem), rfl, (ports q).2.2⟩
  · rfl
  · rfl

/-- A service keeps the law where its rule leaves the link alone and answers at most 80 bytes (R132, R144). -/
theorem LinkKept.serve {body : Request → State → State × Response}
    (own : ∀ r, (body r s).1.ports = s.ports ∧ (body r s).1.store.serving = s.store.serving ∧
      (body r s).1.supply = s.supply ∧ (body r s).2.data.length ≤ 80) : LinkKept s (s.serve p row body) := by
  cases run : s.supply.inReset with
  | true => rw [serve_none fun r service => by simp [service.1] at run]; exact .refl
  | false =>
    unfold State.serve State.answer
    split
    · exact .refl
    next r _ =>
      dsimp only
      split
      · exact .complete run (Nat.zero_le _)
      · split
        · exact .complete run (Nat.zero_le _)
        · obtain ⟨ports, serving, supply, room⟩ := own r
          exact .trans (.of_same ports serving (by rw [supply])) (.complete (by rw [supply]; exact run) room)

theorem LinkKept.serveRead {resp : Request → State → Response} (room : ∀ r, (resp r s).data.length ≤ 80) :
    LinkKept s (s.serveRead p row resp) :=
  .serve fun r => ⟨rfl, rfl, rfl, room r⟩

end Sys2Proof.Machine
end

section
/-! PROOF. O15: no response is longer than 80 bytes (R144), and every command keeps the law of the ports and of the Table Store's
selection (R132, R133, R142, R146, R147, R149). -/

namespace Sys2Proof.Machine

variable {c : Instr} {s t : State} {p : Port} {row : CatalogueRow} {r : Request}

/-! ### Lengths of the responses with lists (R70, R128, R154) -/

theorem stackBytes_length (l : List Override) : (l.flatMap Override.bytes).length = 9 * l.length := by
  rw [flatMap_length _ _ 9 Override.bytes_length, Nat.mul_comm]

theorem oldestUnread_bytes_length (x : Recorder) (p : Port) :
    ((x.oldestUnread p).flatMap JournalRecord.bytes).length ≤ 48 := by
  rw [flatMap_length _ _ 12 JournalRecord.bytes_length]
  have burst : (x.oldestUnread p).length ≤ 4 :=
    (List.length_take_le _ _).trans (Nat.min_le_left _ _)
  omega

@[simp] theorem curveBytes_length (x : PointBank CurvePoint) : (curveBytes x).length = 45 := rfl
@[simp] theorem EstimatorSetup.bytes_length (x : EstimatorSetup) : x.bytes.length = 10 := rfl
@[simp] theorem Sensor.bytes_length (x : Sensor) : x.bytes.length = 10 := rfl
@[simp] theorem epochBytes_length (x : EpochFields) : (epochBytes x).length = 13 := rfl
@[simp] theorem ZoneRecord.bytes_length (x : ZoneRecord) : x.bytes.length = 8 := rfl
@[simp] theorem KillSetup.bytes_length (x : KillSetup) : x.bytes.length = 4 := rfl
@[simp] theorem AuthSettings.bytes_length (x : AuthSettings) : x.bytes.length = 16 := rfl
@[simp] theorem GrantMap.bytes_length (x : GrantMap) : x.bytes.length = 5 := rfl
@[simp] theorem allZones_length : allZones.length = 16 := by decide
@[simp] theorem allKinds_length : allKinds.length = 5 := rfl
@[simp] theorem bare_data (st : Status) : (bare st).data = [] := rfl

@[simp] theorem okData_data (l : List Byte) : (okData l).data = l := rfl
@[simp] theorem pushData_length (replaced : Bool) (evicted held : Nat) : (pushData replaced evicted held).length = 3 := rfl

theorem running_of_inService (h : s.inService p = some r) : s.supply.inReset = false := by
  unfold State.inService at h
  split at h
  next serving =>
    simp only [State.running, Bool.and_eq_true, Bool.not_eq_true'] at serving
    exact serving.1
  next => cases h

/-! ### What a byte of a transaction keeps of its port (R144 to R146) -/

/-- A port with an empty slot begins a write transaction (R145). -/
theorem PortLaw.begin {l : LinkPort} (law : PortLaw l) (empty : l.slot = none) :
    PortLaw { l with receive := .receiving none [] 0, lastAck := true } :=
  ⟨fun r mem => (by rw [empty] at mem; cases mem), rfl, law.2.2⟩

/-- A byte received is the code, or an argument byte within the bounds (R146). -/
theorem PortLaw.addByte {l : LinkPort} {code : Option Byte} {args : List Byte} {n : Nat} {b : Byte}
    (receive : l.receive = .receiving code args n) (law : PortLaw l) :
    PortLaw { l with receive := (Receive.receiving code args n).addByte b, lastAck := true } := by
  obtain ⟨slot, bounded, room⟩ := law
  refine ⟨fun r mem => ?_, ?_, room⟩
  · have idle := (slot r mem).2.1
    rw [receive] at idle
    cases idle
  · rw [receive] at bounded
    cases code with
    | none =>
      simp only [Receive.bounded, Bool.and_eq_true, List.isEmpty_iff, decide_eq_true_eq] at bounded
      obtain ⟨rfl, rfl⟩ := bounded
      rfl
    | some code =>
      obtain ⟨stored, stop⟩ : BytesLaw args n := of_decide_eq_true bounded
      refine decide_eq_true (⟨?_, Nat.min_le_left _ _⟩ : BytesLaw _ _)
      simp only [Config.argsStored]
      split
      · rw [List.length_append, List.length_singleton]
        omega
      · omega

theorem exec_dataByte_idle (run : s.supply.inReset = false) {b : Byte} (idle : (s.ports.get p).receive = .idle) :
    exec (.dataByte p b) s = .next (s.modPort p fun l => { l with lastAck := false }) := by
  simp [exec, execDataByte, State.running, run, State.modPort, idle]

@[simp] theorem State.batteryAtSecond_inReset (s : State) (mv : Nat) :
    (s.batteryAtSecond mv).supply.inReset = s.supply.inReset := by
  rw [State.batteryAtSecond_eq]

section

variable (s : State) (lost : Bool)

@[simp] theorem State.reportLoss_ports : (s.reportLoss lost).ports = s.ports := by cases lost <;> rfl
@[simp] theorem State.reportLoss_store : (s.reportLoss lost).store = s.store := by cases lost <;> rfl
@[simp] theorem State.reportLoss_authority : (s.reportLoss lost).authority = s.authority := by cases lost <;> rfl
@[simp] theorem State.reportLoss_resolver : (s.reportLoss lost).resolver = s.resolver := by cases lost <;> rfl
@[simp] theorem State.reportLoss_monitor : (s.reportLoss lost).monitor = s.monitor := by cases lost <;> rfl
@[simp] theorem State.reportLoss_attention : (s.reportLoss lost).attention = s.attention := by cases lost <;> rfl
@[simp] theorem State.reportLoss_supply : (s.reportLoss lost).supply = s.supply := by cases lost <;> rfl
@[simp] theorem State.reportLoss_pending : (s.reportLoss lost).pending = s.pending := by cases lost <;> rfl

end

theorem mainResetEnd_link {a o : Fin 4} (h : exec (.mainResetEnd a o) s = .next t) : LinkKept s t := by
  cases h
  dsimp only
  split
  · refine fun _ => LinkKept.of_same (s := s.restoreBackup.resetMain s.supply.retentionLost a o) ?_ ?_ ?_ ?_
    · simp
    · simp
    · simp
    · exact linkLaw_iff.2 ⟨fun p => by cases p <;> exact ⟨fun r mem => (by cases mem), rfl, Nat.zero_le _⟩,
        fun p mem => (by cases mem), fun _ p => by cases p <;> rfl, fun reset => (by cases reset)⟩
  · exact .refl

/-- Every command keeps the law of the ports and of the Table Store's selection. -/
theorem exec_link (stack : StackLaw s) (h : exec c s = .next t) : LinkKept s t := by
  cases c with
  | mainResetEnd a o => exact mainResetEnd_link h
  | requestTaken w =>
    cases h
    split
    next run =>
      have run : s.supply.inReset = false := by simpa [State.running] using run
      cases w with
      | one p => exact .endWrite run
      | both => exact .trans (.endWrite run) (.endWrite (by rw [State.endWrite_supply]; exact run))
    next => exact .refl
  | writeAddress p addr =>
    cases run : s.supply.inReset with
    | true => cases h; rw [if_neg (by simp [State.running, run])]; exact .refl
    | false =>
      rw [exec_writeAddress run] at h
      cases h
      refine .trans (.endWrite run) (.modPort (by rw [State.endWrite_supply]; exact run) ?_ fun law => ?_)
      · split <;> rfl
      · split
        next own => exact PortLaw.begin law own.2
        next => exact law
  | responseRead p addr =>
    cases run : s.supply.inReset with
    | true => cases h; rw [if_neg (by simp [State.running, run])]; exact .refl
    | false =>
      rw [exec_responseRead run] at h
      cases h
      refine .trans (.endWrite run) (.modPort (by rw [State.endWrite_supply]; exact run) ?_ fun law => ?_)
      · split <;> rfl
      · split <;> exact law
  | dataByte p b =>
    cases run : s.supply.inReset with
    | true => cases h; rw [if_neg (by simp [State.running, run])]; exact .refl
    | false =>
      cases receive : (s.ports.get p).receive with
      | idle =>
        rw [exec_dataByte_idle run receive] at h
        cases h
        exact .modPort run rfl id
      | receiving code args n =>
        rw [exec_dataByte run receive] at h
        cases h
        exact .modPort run rfl (PortLaw.addByte receive)
  | unknownCode p =>
    cases h
    split
    next r service =>
      split
      · exact .refl
      · exact .complete (running_of_inService service) (Nat.zero_le _)
    next => exact .refl
  | deviceReset p =>
    cases h
    split
    next => exact .refl
    next r service =>
      have run := (serviceOf_eq_some.1 service).1
      split
      · exact .complete run (Nat.zero_le _)
      · split
        · exact .complete run (Nat.zero_le _)
        · exact .beginReset _
  | brownOut =>
    cases h
    split
    · exact .refl
    · exact .trans (t := s.beginReset .power) (.beginReset _) (.of_same rfl rfl rfl)
  | resetNAssert =>
    cases h
    split
    · exact .refl
    · exact .trans (t := s.beginReset .pin) (.beginReset _) (.of_same rfl rfl rfl)
  | ovrList p =>
    cases h
    refine .serveRead fun r => ?_
    have entries := stack.1
    have bytes := stackBytes_length s.authority.stack
    simp only [okData_data, List.length_append, be1_length]
    omega
  | journalRead p =>
    cases h
    refine .serve fun r => ⟨rfl, rfl, rfl, ?_⟩
    have bytes := oldestUnread_bytes_length s.recorder p
    simp only [okData_data, List.length_append, be1_length]
    omega
  | uptimeSecond mv first =>
    cases h
    split
    · dsimp only
      split
      · exact .of_same (by simp) (by simp) (by simp)
      · exact .of_same (by simp) (by simp) (by simp)
    · exact .refl
  -- the other reads: a fixed number of bytes, or RANGE without data
  | status p | clockRead p | curveRead p | sensorRead p | gainRead p | authRead p | grantRead p =>
    cases h
    refine .serveRead fun r => ?_
    simp [Authority.killBytes]
  | epochRead p | zoneRead p | levelRead p =>
    cases h
    refine .serveRead fun r => ?_
    split
    · exact Nat.zero_le _
    · simp
  | faultRead p =>
    cases h
    refine .serveRead fun r => ?_
    split
    · exact Nat.zero_le _
    next z _ =>
      dsimp only
      cases (s.monitor.zones.get z).latest <;> simp
  -- the writes
  | clockSet p | epochWrite p | epochErase p | curveWrite p | sensorSetup p | zoneSetup p | gainWrite p | zoneMode p
  | ovrPush p | ovrRemove p | ovrClear p | killSetup p | killRelease p | authSetup p | grantSet p | faultSetup p
  | zoneRearm p | attnRead p | attnMask p | driveSetup p =>
    cases h
    refine .serve fun r => ?_
    repeat' ((try dsimp only); split)
    all_goals refine ⟨?_, ?_, ?_, ?_⟩ <;> simp [State.setGrants_eq]
  -- the events that reach no port
  | gateCompletion e0 e1 e2 | secondRollover | timebaseFailure n | timebaseFirstEdge | backupStorageDisturbance i contents
  | overrideExpired | presenceTimeout | eblankActiveEdge | eblankInactiveEdge
  | killStartUpTake high | resolveExpiry | periodEnd z | countClockSwitch | fsyncLevelTaken high | syncEvent high
  | syncWatchExpiry | samplePoint z pt current | conversionCompletion code | mainSupplyRise | resetNRelease
  | retentionLoss =>
    cases h
    repeat' ((try dsimp only); split)
    all_goals exact .of_same (by simp) (by simp) (by simp)

/-- Settles O15: every command keeps the law of the ports and of the selection; the stack's law bounds OVR_LIST's response. -/
theorem portsAndTableStoreKeepTheirLaw : Obligations.PortsAndTableStoreKeepTheirLaw := by
  intro s t stack law h
  rcases step_cases h with rfl | ⟨c, rest, -, run⟩
  · exact law
  · exact exec_link (s := s.withPending rest) stack run law

end Sys2Proof.Machine
end

section
/-! PROOF. O16: what the link's commands and the requests of the O-port leave as it is, request by request (R143), under the Grant
Map as it stands (R134, R135). -/

namespace Sys2Proof.Machine

variable {c : Instr} {s t u : State} {p : Port} {row : CatalogueRow} {r : Request} {z : Zone}

/-! ### What a command of the O-port keeps -/

/-- What FAULT_SETUP's tables are under an authority-held FAULT_SETUP (R135). -/
structure FaultTablesKept (s t : State) : Prop where
  limit : t.monitor.limit = s.monitor.limit
  zones (z : Zone) :
    (t.monitor.zones.get z).openThreshold = (s.monitor.zones.get z).openThreshold ∧
      (t.monitor.zones.get z).shortThreshold = (s.monitor.zones.get z).shortThreshold ∧
      (∀ k, (t.monitor.zones.get z).reaction k = (s.monitor.zones.get z).reaction k) ∧
      (s.installed z = false ∨ t.installed z = true →
        (t.monitor.zones.get z).lockout = (s.monitor.zones.get z).lockout ∧ ∀ k, t.entry z k = s.entry z k)

/-- What a command of the O-port keeps where the authority holds every group (R143). -/
structure OperatorOnly (s t : State) : Prop where
  blocks : ownEffect s t =
    { s with
      resolver := t.resolver, drive := { s.drive with zones := t.drive.zones }
      recorder :=
        { s.recorder with
          unread := ⟨s.recorder.unread.a, t.recorder.unread.o⟩
          missed := ⟨s.recorder.missed.a, t.recorder.missed.o⟩ }
      attention :=
        { s.attention with
          mask := ⟨s.attention.mask.a, t.attention.mask.o⟩
          grade := ⟨s.attention.grade.a, t.attention.grade.o⟩, grant := t.attention.grant } }
  zones (z : Zone) :
    t.resolver.get z =
        { s.resolver.get z with gain := (t.resolver.get z).gain, operator := (t.resolver.get z).operator } ∧
      t.drive.zones.get z =
        { s.drive.zones.get z with
          bufferedMode := (t.drive.zones.get z).bufferedMode
          swapPending := (t.drive.zones.get z).swapPending }

/-- What a command of the O-port keeps (R143). -/
structure OperatorKeeps (s t : State) : Prop where
  epochs : t.clock.epochs = s.clock.epochs ∨ s.store.grants.clock = .o
  authority : t.authority = s.authority
  grants : t.store.grants = s.store.grants
  supply : t.supply = s.supply
  portA : t.ports.a = s.ports.a
  contents (i : Fin 24) :
    (t.clock.epochs.get i).fields = (s.clock.epochs.get i).fields ∧
      (t.clock.epochs.get i).parity = (s.clock.epochs.get i).parity
  clock : s.store.grants.clock = .a → t.clock = s.clock
  ambient : s.store.grants.curve = .a → t.ambient = s.ambient
  records : s.store.grants.zoneSetup = .a → ∀ z, (t.drive.zones.get z).record = (s.drive.zones.get z).record
  faults : s.store.grants.faultSetup = .a → FaultTablesKept s t
  timing : s.store.grants.driveTiming = .a → t.drive.baseFrequency = s.drive.baseFrequency ∧
    t.drive.edgeMode = s.drive.edgeMode ∧ t.drive.swapMode = s.drive.swapMode
  rest : (∀ g, s.store.grants.holder g = .a) → OperatorOnly s t

theorem FaultTablesKept.of_same (limit : t.monitor.limit = s.monitor.limit) (zones : t.monitor.zones = s.monitor.zones)
    (table : t.recorder.table = s.recorder.table) : FaultTablesKept s t where
  limit := limit
  zones z := by
    rw [zones]
    exact ⟨rfl, rfl, fun _ => rfl, fun _ => ⟨rfl, fun k => by rw [State.entry, State.entry, table]⟩⟩

/-- What reaches the O-port and the selection alone. -/
theorem OperatorKeeps.link (l : LinkPort) (serving : Option Port) :
    OperatorKeeps s { s with ports := ⟨s.ports.a, l⟩, store := { s.store with serving } } where
  epochs := .inl rfl
  authority := rfl
  grants := rfl
  supply := rfl
  portA := rfl
  contents _ := ⟨rfl, rfl⟩
  clock _ := rfl
  ambient _ := rfl
  records _ _ := rfl
  faults _ := .of_same rfl rfl rfl
  timing _ := ⟨rfl, rfl, rfl⟩
  rest _ := ⟨rfl, fun _ => ⟨rfl, rfl⟩⟩

theorem OperatorKeeps.refl : OperatorKeeps s s := .link s.ports.o s.store.serving

/-- The completion of a service of the O-port. -/
theorem OperatorKeeps.complete {resp : Response} (h : OperatorKeeps s u) : OperatorKeeps s (u.complete .o resp) where
  epochs := h.epochs
  authority := h.authority
  grants := h.grants
  supply := h.supply
  portA := h.portA
  contents := h.contents
  clock := h.clock
  ambient := h.ambient
  records := h.records
  faults held := ⟨(h.faults held).limit, (h.faults held).zones⟩
  timing := h.timing
  rest held := ⟨(h.rest held).blocks, (h.rest held).zones⟩

/-- A service of the O-port comes to the request's own rule only where the O-port has the right (R134). -/
theorem OperatorKeeps.serve {body : Request → State → State × Response}
    (own : MayMake s .o row → ∀ r, OperatorKeeps s (body r s).1) : OperatorKeeps s (s.serve .o row body) := by
  unfold State.serve State.answer
  split
  · exact .refl
  next r _ =>
    dsimp only
    split
    · exact .complete .refl
    · split
      · exact .complete .refl
      next may => exact .complete (own (permitted_iff.1 (by simpa using may)) r)

/-- A request of a group that the O-port holds can change that group's tables alone. -/
theorem OperatorKeeps.of_held (g : Group) (held : .o = s.store.grants.holder g) (authority : t.authority = s.authority)
    (grants : t.store.grants = s.store.grants) (supply : t.supply = s.supply) (ports : t.ports = s.ports)
    (contents : ∀ i, (t.clock.epochs.get i).fields = (s.clock.epochs.get i).fields ∧
      (t.clock.epochs.get i).parity = (s.clock.epochs.get i).parity)
    (clock : g ≠ .clock → t.clock = s.clock) (ambient : g ≠ .curve → t.ambient = s.ambient)
    (records : g ≠ .zoneSetup → ∀ z, (t.drive.zones.get z).record = (s.drive.zones.get z).record)
    (faults : g ≠ .faultSetup → FaultTablesKept s t)
    (timing : g ≠ .driveTiming → t.drive.baseFrequency = s.drive.baseFrequency ∧
      t.drive.edgeMode = s.drive.edgeMode ∧ t.drive.swapMode = s.drive.swapMode) : OperatorKeeps s t := by
  have other (k : Group) (a : s.store.grants.holder k = .a) : g ≠ k := by
    rintro rfl
    exact Port.noConfusion (held.trans a)
  refine ⟨?_, authority, grants, supply, by rw [ports], contents, fun a => clock (other .clock a),
    fun a => ambient (other .curve a), fun a => records (other .zoneSetup a), fun a => faults (other .faultSetup a),
    fun a => timing (other .driveTiming a), fun all => absurd rfl (other g (all g))⟩
  by_cases own : g = .clock
  · subst own
    exact .inr held.symm
  · exact .inl (by rw [clock own])

/-! ### The requests of the groups (R135) -/

theorem State.evaluate_contents (i : Fin 24) :
    (s.evaluate.clock.epochs.get i).fields = (s.clock.epochs.get i).fields ∧
      (s.evaluate.clock.epochs.get i).parity = (s.clock.epochs.get i).parity := by
  obtain ⟨-, clock, -, entries, -⟩ := s.evaluate_evaluated
  rw [clock, entries i]
  exact ⟨rfl, rfl⟩

/-- CLOCK_SET evaluates, and so may mark damaged entries (R52, R62). -/
theorem State.setClock_operatorKeeps {time : CivilTime} (held : .o = s.store.grants.clock) :
    OperatorKeeps s (s.setClock time) := by
  have contents (i : Fin 24) : ((s.setClock time).clock.epochs.get i).fields = (s.clock.epochs.get i).fields ∧
      ((s.setClock time).clock.epochs.get i).parity = (s.clock.epochs.get i).parity := by
    unfold State.setClock
    cases s.clock.valid <;> exact State.evaluate_contents i
  have table : (s.setClock time).recorder.table = s.recorder.table :=
    ZoneBank.ext_get _ _ fun z => congrArg ZoneView.entries (s.setClock_zoneView z time)
  exact .of_held .clock held (by simp) (by simp) (by simp) (by simp) contents (fun other => absurd rfl other)
    (fun _ => by simp) (fun _ _ => by simp) (fun _ => .of_same (by simp) (by simp) table) fun _ => by simp

theorem State.setZoneRecord_zoneView_of_ne {rec : ZoneRecord} {y : Zone} (ne : y ≠ z) :
    (s.setZoneRecord z rec).zoneView y = s.zoneView y := by
  unfold State.setZoneRecord
  split <;> simp [State.zoneView, State.clearZone, State.modChannel, State.modMonitor, ne]

/-- ZONE_SETUP clears fault entries and the lockout of a zone that it uninstalls alone (R117, R120, R135). -/
theorem State.setZoneRecord_operatorKeeps {rec : ZoneRecord} (held : .o = s.store.grants.zoneSetup) :
    OperatorKeeps s (s.setZoneRecord z rec) := by
  refine .of_held .zoneSetup held (by simp) (by simp) (by simp) (by simp) (by simp) (fun _ => by simp) (fun _ => by simp)
    (fun other => absurd rfl other) (fun _ => ⟨by simp, fun y => ?_⟩) fun _ => ?_
  · by_cases here : y = z
    · subst here
      unfold State.setZoneRecord
      split
      next => exact ⟨rfl, rfl, fun k => by cases k <;> rfl, fun _ => ⟨rfl, fun _ => rfl⟩⟩
      next on off =>
        have monitor : (((s.modChannel y fun c => c.uninstall rec).clearZone y).monitor.zones.get y) =
            { s.monitor.zones.get y with window := .idle, lockout := false, latest := none } := by
          simp [State.clearZone, State.modMonitor, State.modChannel]
        have left : ((s.modChannel y fun c => c.uninstall rec).clearZone y).installed y = false := by
          simp [State.clearZone, State.modMonitor, State.modChannel, State.installed, Channel.uninstall, off]
        rw [monitor, on, left]
        exact ⟨rfl, rfl, fun k => by cases k <;> rfl, fun stays => (by simp at stays)⟩
      next => exact ⟨rfl, rfl, fun k => by cases k <;> rfl, fun _ => ⟨rfl, fun _ => rfl⟩⟩
    · have view := s.setZoneRecord_zoneView_of_ne (rec := rec) here
      have monitor : (s.setZoneRecord z rec).monitor.zones.get y = s.monitor.zones.get y := congrArg ZoneView.monitor view
      have table : (s.setZoneRecord z rec).recorder.table.get y = s.recorder.table.get y := congrArg ZoneView.entries view
      rw [monitor]
      exact ⟨rfl, rfl, fun _ => rfl, fun _ => ⟨rfl, fun k => by rw [State.entry, State.entry, table]⟩⟩
  · unfold State.setZoneRecord
    split <;> exact ⟨rfl, rfl, rfl⟩

theorem State.setFaultSetup_operatorKeeps {mask : ZoneMask} {a : FaultSetupArgs} {q : Nat}
    (held : .o = s.store.grants.faultSetup) : OperatorKeeps s (s.setFaultSetup mask a q) := by
  refine .of_held .faultSetup held (by simp) (by simp) (by simp) (by simp) (by simp) (fun _ => by simp) (fun _ => by simp)
    (fun _ y => ?_) (fun other => absurd rfl other) fun _ => ?_
  · rw [show (s.setFaultSetup mask a q).drive.zones.get y = _ from
      congrArg ZoneView.channel (s.setFaultSetup_zoneView mask a q y)]
    dsimp only
    split <;> rfl
  · unfold State.setFaultSetup
    dsimp only
    split <;> exact ⟨rfl, rfl, rfl⟩

theorem State.rearm_operatorKeeps (held : .o = s.store.grants.faultSetup) : OperatorKeeps s (s.rearm z) := by
  have drive : (s.rearm z).drive = s.drive ∨
      (s.rearm z).drive = (s.modChannel z fun c => { c with supplyEnable := true }).drive := by
    simp only [State.rearm, allKinds, List.foldl]
    split <;> simp [State.endLockout, State.modChannel, State.modMonitor]
  refine .of_held .faultSetup held (by simp) (by simp) (by simp) (by simp) (by simp) (fun _ => by simp) (fun _ => by simp)
    (fun _ y => ?_) (fun other => absurd rfl other) fun _ => ?_
  all_goals rcases drive with same | raised
  · rw [same]
  · rw [raised]
    by_cases here : y = z <;> simp [State.modChannel, here]
  · rw [same]
    exact ⟨rfl, rfl, rfl⟩
  · rw [raised]
    exact ⟨rfl, rfl, rfl⟩

theorem State.setDriveTiming_operatorKeeps {f : BaseFrequency} {e : EdgeMode} {m : SwapMode}
    (held : .o = s.store.grants.driveTiming) : OperatorKeeps s (s.setDriveTiming f e m) := by
  have table : (s.setDriveTiming f e m).recorder.table = s.recorder.table := by
    rw [State.setDriveTiming_eq]
    dsimp only
    split
    · rw [Recorder.append_table]
    · rfl
  refine .of_held .driveTiming held (by simp) (by simp) (by simp) (by simp) (by simp) (fun _ => by simp) (fun _ => by simp)
    (fun _ y => ?_) (fun _ => .of_same (by simp) (by simp) table) fun other => absurd rfl other
  rw [State.setDriveTiming_eq, ZoneBank.get_ofFn]
  split <;> rfl

/-- CURVE_WRITE and SENSOR_SETUP reach the Ambient Estimator alone. -/
theorem State.withAmbient_operatorKeeps {x : Ambient} (held : .o = s.store.grants.curve) :
    OperatorKeeps s (s.withAmbient x) :=
  .of_held .curve held rfl rfl rfl rfl (fun _ => ⟨rfl, rfl⟩) (fun _ => rfl) (fun other => absurd rfl other)
    (fun _ _ => rfl) (fun _ => .of_same rfl rfl rfl) fun _ => ⟨rfl, rfl, rfl⟩

/-! ### The requests that the O-port may always make (R134, R136) -/

theorem gains_operatorKeeps {bank : ZoneBank ResolverZone}
    (kept : ∀ z, bank.get z = { s.resolver.get z with gain := (bank.get z).gain }) : OperatorKeeps s (s.withResolver bank) where
  epochs := .inl rfl
  authority := rfl
  grants := rfl
  supply := rfl
  portA := rfl
  contents _ := ⟨rfl, rfl⟩
  clock _ := rfl
  ambient _ := rfl
  records _ _ := rfl
  faults _ := .of_same rfl rfl rfl
  timing _ := ⟨rfl, rfl, rfl⟩
  rest _ :=
    { blocks := rfl
      zones := fun z => by
        refine ⟨?_, rfl⟩
        rw [show (s.withResolver bank).resolver = bank from rfl, kept z] }

theorem State.setOperator_operatorKeeps {mask : ZoneMask} {m : OperatorMode} : OperatorKeeps s (s.setOperator mask m) := by
  rw [State.setOperator_eq]
  refine ⟨.inl rfl, rfl, rfl, rfl, rfl, fun _ => ⟨rfl, rfl⟩, fun _ => rfl, fun _ => rfl, fun _ z => ?_,
    fun _ => .of_same rfl rfl rfl, fun _ => ⟨rfl, rfl, rfl⟩, fun _ => ⟨rfl, fun z => ?_⟩⟩
  · rw [ZoneBank.get_ofFn]
    split <;> rfl
  · simp only [ZoneBank.get_ofFn]
    constructor <;> split <;> rfl

/-- JOURNAL_READ counts for its own port (R128). -/
theorem State.markRead_operatorKeeps : OperatorKeeps s (s.withRecorder (s.recorder.markRead .o)) where
  epochs := .inl rfl
  authority := rfl
  grants := rfl
  supply := rfl
  portA := rfl
  contents _ := ⟨rfl, rfl⟩
  clock _ := rfl
  ambient _ := rfl
  records _ _ := rfl
  faults _ := .of_same rfl rfl rfl
  timing _ := ⟨rfl, rfl, rfl⟩
  rest _ := ⟨rfl, fun _ => ⟨rfl, rfl⟩⟩

/-- ATTN_READ and ATTN_MASK reach the latches and the mask of their own port (R158, R159). -/
theorem State.withAttention_operatorKeeps {x : Attention}
    (own : x =
      { s.attention with
        mask := ⟨s.attention.mask.a, x.mask.o⟩, grade := ⟨s.attention.grade.a, x.grade.o⟩, grant := x.grant }) :
    OperatorKeeps s (s.withAttention x) where
  epochs := .inl rfl
  authority := rfl
  grants := rfl
  supply := rfl
  portA := rfl
  contents _ := ⟨rfl, rfl⟩
  clock _ := rfl
  ambient _ := rfl
  records _ _ := rfl
  faults _ := .of_same rfl rfl rfl
  timing _ := ⟨rfl, rfl, rfl⟩
  rest _ :=
    { blocks := congrArg (fun a => ownEffect s (s.withAttention a)) own
      zones := fun _ => ⟨rfl, rfl⟩ }

/-! ### The link (R145 to R147) -/

/-- The end of a write on the O-port reaches the port and the selection alone. -/
theorem State.endWrite_operator (s : State) : ∃ l serving,
    s.endWrite .o = { s with ports := ⟨s.ports.a, l⟩, store := { s.store with serving } } := by
  cases receive : (s.ports.get .o).receive with
  | idle => exact ⟨s.ports.o, s.store.serving, s.endWrite_of_idle receive⟩
  | receiving code args n =>
    cases code with
    | none => exact ⟨_, s.store.serving, s.endWrite_of_no_code receive⟩
    | some code => exact ⟨_, _, (s.endWrite_of_code receive).trans (s.take_eq .o ⟨code, args, n⟩)⟩

theorem OperatorKeeps.endWrite_modPort (f : LinkPort → LinkPort) : OperatorKeeps s ((s.endWrite .o).modPort .o f) := by
  obtain ⟨l, serving, ends⟩ := s.endWrite_operator
  rw [ends]
  exact .link (f l) serving

/-! ### Every command of the O-port -/

theorem exec_operatorKeeps (own : actsOn c = some .o) (h : exec c s = .next t) : OperatorKeeps s t := by
  cases c with
  | requestTaken w =>
    cases w with
    | both => cases own
    | one p =>
      cases own
      cases h
      split
      · obtain ⟨l, serving, ends⟩ := s.endWrite_operator
        change OperatorKeeps s (s.endWrite .o)
        rw [ends]
        exact .link l serving
      · exact .refl
  | writeAddress p addr | responseRead p addr =>
    cases own
    cases h
    split
    · exact .endWrite_modPort _
    · exact .refl
  | dataByte p b =>
    cases own
    cases h
    split
    · exact .link _ s.store.serving
    · exact .refl
  | unknownCode p =>
    cases own
    cases h
    split
    · split
      · exact .refl
      · exact .complete .refl
    · exact .refl
  | deviceReset p =>
    cases own
    cases h
    split
    · exact .refl
    · split
      · exact .complete .refl
      · change OperatorKeeps s (s.complete .o (bare .denied))
        exact .complete .refl
  | status p | clockRead p | epochRead p | curveRead p | sensorRead p | zoneRead p | gainRead p | levelRead p | ovrList p
  | authRead p | grantRead p | faultRead p =>
    cases own
    cases h
    exact .serve fun _ _ => .refl
  | epochWrite p | epochErase p | ovrPush p | ovrRemove p | ovrClear p | killSetup p | killRelease p | authSetup p
  | grantSet p =>
    cases own
    cases h
    exact .serve fun may _ => Port.noConfusion (may : Port.o = Port.a)
  | clockSet p =>
    cases own
    cases h
    refine .serve fun may r => ?_
    split
    · exact .refl
    · split
      · exact .refl
      · exact State.setClock_operatorKeeps may
  | curveWrite p =>
    cases own
    cases h
    refine .serve fun may r => ?_
    split
    · exact .refl
    · split
      · exact .refl
      · exact State.withAmbient_operatorKeeps may
  | sensorSetup p =>
    cases own
    cases h
    refine .serve fun may r => ?_
    dsimp only
    split
    · exact .refl
    · exact State.withAmbient_operatorKeeps may
  | zoneSetup p =>
    cases own
    cases h
    refine .serve fun may r => ?_
    split
    · exact State.setZoneRecord_operatorKeeps may
    · exact .refl
  | gainWrite p =>
    cases own
    cases h
    refine .serve fun _ r => ?_
    split
    · exact .refl
    · refine gains_operatorKeeps fun z => ?_
      rw [ZoneBank.get_mapIdx]
      split <;> rfl
  | zoneMode p =>
    cases own
    cases h
    refine .serve fun _ r => ?_
    split
    · exact .refl
    · split
      · exact .refl
      · exact State.setOperator_operatorKeeps
  | faultSetup p =>
    cases own
    cases h
    refine .serve fun may r => ?_
    split
    · exact .refl
    · split
      · exact .refl
      · exact State.setFaultSetup_operatorKeeps may
  | zoneRearm p =>
    cases own
    cases h
    refine .serve fun may r => ?_
    split
    · exact .refl
    · split
      · exact State.rearm_operatorKeeps may
      · exact .refl
  | journalRead p =>
    cases own
    cases h
    exact .serve fun _ _ => State.markRead_operatorKeeps
  | attnRead p =>
    cases own
    cases h
    exact .serve fun _ _ => State.withAttention_operatorKeeps rfl
  | attnMask p =>
    cases own
    cases h
    exact .serve fun _ _ => State.withAttention_operatorKeeps rfl
  | driveSetup p =>
    cases own
    cases h
    refine .serve fun may r => ?_
    split
    · exact State.setDriveTiming_operatorKeeps may
    · exact .refl
  | resolveExpiry | gateCompletion _ _ _ | secondRollover | timebaseFailure _ | timebaseFirstEdge | uptimeSecond _ _
  | overrideExpired | presenceTimeout | periodEnd _ | countClockSwitch | samplePoint _ _ _ | conversionCompletion _
  | eblankActiveEdge | eblankInactiveEdge | killStartUpTake _ | syncEvent _ | syncWatchExpiry | brownOut | mainSupplyRise
  | resetNAssert | resetNRelease | mainResetEnd _ _ | retentionLoss | fsyncLevelTaken _ | backupStorageDisturbance _ _ =>
    cases own

/-- Settles O16: each command of the O-port reaches only what the Grant Map lets the O-port write. -/
theorem operatorPortChangesNoTableOfTheAuthority : Obligations.OperatorPortChangesNoTableOfTheAuthority := by
  intro c s t own h
  obtain ⟨epochs, authority, grants, supply, portA, contents, clock, ambient, records, faults, timing, rest⟩ :=
    exec_operatorKeeps own h
  exact ⟨epochs, authority, grants, supply, portA, contents, clock, ambient, records,
    fun held => ⟨(faults held).limit, (faults held).zones⟩, timing, fun held => ⟨(rest held).blocks, (rest held).zones⟩⟩

end Sys2Proof.Machine
end

section
/-! PROOF. O1 and O3: the queue, and the laws in the state after reset. -/

namespace Sys2Proof.Machine

/-! ### The queue (log 1) -/

/-- Settles O1, by the shape of the queue. -/
theorem stepExecutesTheFrontCommand : Obligations.StepExecutesTheFrontCommand := by
  refine ⟨fun s c rest queue => ?front, fun s empty => ?idle⟩
  case front =>
    unfold step
    rw [queue]
    rfl
  case idle =>
    unfold step
    rw [empty]

/-! ### The state after reset (R165) -/

theorem journalLaw_reset : JournalLaw .reset := by decide

theorem qualificationLaw_reset : QualificationLaw .reset := by decide

theorem stackLaw_reset : StackLaw .reset := by decide

theorem compareLaw_reset : CompareLaw .reset := by decide

theorem scheduleLaw_reset : ScheduleLaw .reset := by decide

theorem authorityLaw_reset : AuthorityLaw .reset := by decide

theorem zoneRangeLaw_reset : ZoneRangeLaw .reset :=
  ⟨Nat.zero_le _, fun z => by
    have channel := channelAfterReset_inRange z
    have resolver := resolverZoneAfterReset_inRange
    have monitor := monitorZoneAfterReset_inRange
    fin_cases z <;> exact ⟨resolver, channel, monitor⟩⟩

theorem outputLaw_reset : OutputLaw .reset := by decide

theorem conditionsLaw_reset : ConditionsLaw .reset := by decide

theorem linkLaw_reset : LinkLaw .reset := by decide

theorem sourceLaw_reset : SourceLaw .reset := by decide

/-- Settles O3, law by law. -/
theorem lawsHoldAtReset : Obligations.LawsHoldAtReset :=
  ⟨journalLaw_reset, qualificationLaw_reset, stackLaw_reset, compareLaw_reset, curveLaw_defaultCurve, ambientLaw_reset,
    scheduleLaw_reset, authorityLaw_reset, zoneRangeLaw_reset, outputLaw_reset, conditionsLaw_reset, linkLaw_reset,
    sourceLaw_reset⟩

end Sys2Proof.Machine
end

section
/-! PROOF. O17: the curve's lines (R5), by the segments of the list of points, and the ambient value that a state gives them. -/

namespace Sys2Proof.Machine

variable {p q : CurvePoint} {l before rest : List CurvePoint} {s : State}

/-! ### The curve over a list of points -/

/-- At or above the second breakpoint the first segment has no say. -/
theorem curveAt_cons_cons_of_le {e : Nat} (above : q.b ≤ e) : curveAt (p :: q :: rest) e = curveAt (q :: rest) e := by
  rw [curveAt, if_neg (Nat.not_lt.2 above)]

theorem curveAt_of_le_first (ordered : Ordered (p :: l)) {e : Nat} (below : e ≤ p.b) : curveAt (p :: l) e = p.l := by
  cases l with
  | nil => rfl
  | cons q rest =>
    obtain ⟨next, -⟩ := List.rel_of_pairwise_cons ordered List.mem_cons_self
    rw [curveAt, if_pos (below.trans_lt next), if_pos below]

/-- At or above the breakpoint of a point, the points before it have no say. -/
theorem curveAt_append_of_le (ordered : Ordered (before ++ p :: rest)) {e : Nat} (above : p.b ≤ e) :
    curveAt (before ++ p :: rest) e = curveAt (p :: rest) e := by
  induction before with
  | nil => rfl
  | cons x before ih =>
    have tail := ih (List.pairwise_cons.1 ordered).2
    cases before with
    | nil => exact curveAt_cons_cons_of_le above
    | cons y before =>
      have order : y.b ≤ p.b :=
        (List.rel_of_pairwise_cons (List.pairwise_cons.1 ordered).2 (by simp : p ∈ before ++ p :: rest)).1.le
      exact (curveAt_cons_cons_of_le (order.trans above)).trans tail

/-- Below the second breakpoint the first segment's line, flat below the first (R5). -/
theorem curveAt_of_lt_second {e : Nat} (below : e < q.b) :
    curveAt (p :: q :: rest) e = p.l + (e - p.b) * (q.l - p.l) / (q.b - p.b) := by
  rw [curveAt, if_pos below]
  split
  next low => simp [Nat.sub_eq_zero_of_le low]
  next => rfl

/-- A segment's line ends at the level of its second point. -/
theorem segment_le {a b m n e : Nat} (levels : m ≤ n) (below : e < b) : m + (e - a) * (n - m) / (b - a) ≤ n := by
  have slope : (e - a) * (n - m) / (b - a) ≤ n - m :=
    Nat.div_le_of_le_mul (Nat.mul_le_mul_right _ (Nat.sub_le_sub_right below.le a))
  omega

theorem first_le_curveAt (ordered : Ordered (p :: l)) (e : Nat) : p.l ≤ curveAt (p :: l) e := by
  induction l generalizing p with
  | nil => exact le_rfl
  | cons q rest ih =>
    obtain ⟨-, levels⟩ := List.rel_of_pairwise_cons ordered List.mem_cons_self
    by_cases below : e < q.b
    · rw [curveAt_of_lt_second below]
      exact Nat.le_add_right _ _
    · rw [curveAt_cons_cons_of_le (Nat.not_lt.1 below)]
      exact levels.trans (ih (List.pairwise_cons.1 ordered).2)

theorem curveAt_mono (ordered : Ordered l) {e e' : Nat} (le : e ≤ e') : curveAt l e ≤ curveAt l e' := by
  induction l with
  | nil => exact le_rfl
  | cons p l ih =>
    cases l with
    | nil => exact le_rfl
    | cons q rest =>
      obtain ⟨-, levels⟩ := List.rel_of_pairwise_cons ordered List.mem_cons_self
      have tail := (List.pairwise_cons.1 ordered).2
      by_cases below' : e' < q.b
      · rw [curveAt_of_lt_second (le.trans_lt below'), curveAt_of_lt_second below']
        exact Nat.add_le_add_left
          (Nat.div_le_div_right (Nat.mul_le_mul_right _ (Nat.sub_le_sub_right le _))) _
      · rw [curveAt_cons_cons_of_le (Nat.not_lt.1 below')]
        by_cases below : e < q.b
        · rw [curveAt_of_lt_second below]
          exact (segment_le levels below).trans (first_le_curveAt tail e')
        · rw [curveAt_cons_cons_of_le (Nat.not_lt.1 below)]
          exact ih tail

/-- No value of the curve lies above all its levels. -/
theorem curveAt_le (ordered : Ordered l) {m : Nat} (bound : ∀ p ∈ l, p.l ≤ m) (e : Nat) : curveAt l e ≤ m := by
  induction l with
  | nil => exact Nat.zero_le _
  | cons p l ih =>
    cases l with
    | nil => exact bound p List.mem_cons_self
    | cons q rest =>
      obtain ⟨-, levels⟩ := List.rel_of_pairwise_cons ordered List.mem_cons_self
      by_cases below : e < q.b
      · rw [curveAt_of_lt_second below]
        exact (segment_le levels below).trans (bound q (by simp))
      · rw [curveAt_cons_cons_of_le (Nat.not_lt.1 below)]
        exact ih (List.pairwise_cons.1 ordered).2 fun x mem => bound x (List.mem_cons_of_mem _ mem)

/-! ### The curve of nine points -/

/-- Two neighbouring points split the curve's list. -/
theorem PointBank.toList_split (c : PointBank CurvePoint) (i : Fin 8) :
    ∃ before rest, c.toList = before ++ c.get i.castSucc :: c.get i.succ :: rest := by
  refine ⟨c.toList.take i, c.toList.drop (i + 2), ?_⟩
  fin_cases i <;> rfl

/-- Settles O17: the lines segment by segment, then what ambient value stage 1 takes. -/
theorem curveLuminanceFollowsTheLines : Obligations.CurveLuminanceFollowsTheLines := by
  refine ⟨fun c ⟨ordered, range⟩ => ⟨fun e below => ?first, fun e above => ?last, fun i j e next above below => ?between,
    fun e e' le => curveAt_mono ordered le, fun e => curveAt_le ordered (fun p mem => (range p mem).2) e⟩,
    fun s => ⟨fun e set => ?filtered, fun a unset valid active => ?fallback, fun unset dark => ?unscheduled⟩⟩
  case first => exact curveAt_of_le_first ordered below
  case last => exact curveAt_append_of_le (before := [_, _, _, _, _, _, _, _]) (rest := []) ordered above
  case between =>
    obtain ⟨k, rfl, rfl⟩ : ∃ k : Fin 8, i = k.castSucc ∧ j = k.succ := ⟨⟨i.val, by omega⟩, rfl, Fin.ext next⟩
    obtain ⟨before, rest, split⟩ := c.toList_split k
    rw [split] at ordered ⊢
    rw [curveAt_append_of_le ordered above, curveAt_of_lt_second below]
  case filtered => simp [State.curveLuminance, State.resolverAmbient, set]
  case fallback => simp [State.curveLuminance, State.resolverAmbient, unset, State.fallback, valid, active]
  case unscheduled => simp [State.curveLuminance, State.resolverAmbient, unset, State.fallback_of_unscheduled dark]

end Sys2Proof.Machine
end

section
/-! PROOF. O18 and O19: the chosen FORCE as the last of the highest priority (R8), and the ceiling as the least of the limits in
force (R9 to R15). -/

namespace Sys2Proof.Machine

variable {s t : State} {z : Zone} {f : Override} {stack older newer : List Override} {l : Limit}

/-! ### The chosen FORCE (R8) -/

/-- `f` covers the zone with a FORCE, has the highest priority of those that do, and is the newest of them. -/
def IsChosen (stack : List Override) (z : Zone) (f : Override) : Prop :=
  ∃ older newer, stack = older ++ f :: newer ∧ Covers f .force z ∧
    (∀ e ∈ older, Covers e .force z → e.priority ≤ f.priority) ∧ ∀ e ∈ newer, Covers e .force z → e.priority < f.priority

theorem chosenForce_eq_none_iff : chosenForce stack z = none ↔ ∀ e ∈ stack, ¬Covers e .force z := by
  rw [← Option.not_isSome_iff_eq_none, chosenForce_isSome_iff]
  simp only [not_exists, not_and]

/-- An entry put on top of the stack leaves the choice where it does not cover the zone or is of lower priority. -/
theorem chosenForce_concat_of_kept {x : Override} (chosen : chosenForce stack z = some f)
    (kept : Covers x .force z → x.priority < f.priority) : chosenForce (stack ++ [x]) z = some f := by
  rw [chosenForce_concat, chosen]
  by_cases covers : x.covers .force z = true
  · rw [if_pos covers]
    exact if_neg (Nat.not_le.2 (kept ((Override.covers_iff ..).1 covers)))
  · rw [if_neg covers]

/-- A covering entry put on top is chosen where no other has a higher priority. -/
theorem chosenForce_concat_of_covers {x : Override} (covers : Covers x .force z)
    (high : ∀ b, chosenForce stack z = some b → b.priority ≤ x.priority) : chosenForce (stack ++ [x]) z = some x := by
  rw [chosenForce_concat, if_pos ((Override.covers_iff ..).2 covers)]
  cases chosen : chosenForce stack z with
  | none => rfl
  | some b => exact if_pos (high b chosen)

theorem IsChosen.concat {x : Override} (h : IsChosen stack z f) (kept : Covers x .force z → x.priority < f.priority) :
    IsChosen (stack ++ [x]) z f := by
  obtain ⟨older, newer, rfl, covers, high, newest⟩ := h
  refine ⟨older, newer ++ [x], by simp, covers, high, fun e mem => ?_⟩
  rcases List.mem_append.1 mem with old | top
  · exact newest e old
  · rw [List.mem_singleton.1 top]
    exact kept

theorem IsChosen.priority_le (h : IsChosen stack z f) : ∀ e ∈ stack, Covers e .force z → e.priority ≤ f.priority := by
  obtain ⟨older, newer, rfl, -, high, newest⟩ := h
  intro e mem covers
  simp only [List.mem_append, List.mem_cons] at mem
  rcases mem with old | rfl | new
  · exact high e old covers
  · exact le_rfl
  · exact (newest e new covers).le

theorem isChosen_of_chosenForce (h : chosenForce stack z = some f) : IsChosen stack z f := by
  induction stack using List.reverseRecOn generalizing f with
  | nil => cases h
  | append_singleton stack x ih =>
    have top (covers : Covers x .force z) (high : ∀ e ∈ stack, Covers e .force z → e.priority ≤ x.priority) :
        IsChosen (stack ++ [x]) z x :=
      ⟨stack, [], rfl, covers, high, fun e mem => (by cases mem)⟩
    simp only [chosenForce_concat, Override.covers_iff] at h
    split at h
    next covers =>
      split at h
      next free =>
        cases h
        exact top covers fun e mem other => absurd other (chosenForce_eq_none_iff.1 free e mem)
      next b chosen =>
        split at h
        next high =>
          cases h
          exact top covers fun e mem other => ((ih chosen).priority_le e mem other).trans high
        next low =>
          refine (ih h).concat fun _ => ?_
          cases chosen.symm.trans h
          exact Nat.lt_of_not_le low
    next uncovered => exact (ih h).concat fun covers => absurd covers uncovered

theorem chosenForce_of_isChosen (h : IsChosen stack z f) : chosenForce stack z = some f := by
  obtain ⟨older, newer, rfl, covers, high, newest⟩ := h
  induction newer using List.reverseRecOn with
  | nil =>
    refine chosenForce_concat_of_covers covers fun b chosen => ?_
    obtain ⟨l₁, l₂, rfl, coversB, -⟩ := isChosen_of_chosenForce chosen
    exact high b (by simp) coversB
  | append_singleton newer x ih =>
    have kept := ih fun e mem => newest e (List.mem_append_left _ mem)
    have last := chosenForce_concat_of_kept kept (newest x (by simp))
    simpa using last

/-- Settles O18: the choice and its description follow from each other. -/
theorem chosenForceIsTheNewestOfTheHighestPriority : Obligations.ChosenForceIsTheNewestOfTheHighestPriority :=
  fun _ _ => ⟨chosenForce_eq_none_iff, fun _ => ⟨isChosen_of_chosenForce, chosenForce_of_isChosen⟩⟩

/-! ### The limits in force (R9 to R14) -/

theorem mem_thermal_of_limit {v : Nat}
    (h : thermalLimit s.authority.settings (s.drive.zones.get z).record.lmax (s.entry z .thermFault).asserted
      (s.monitor.zones.get z).latest = some v) : ⟨v, .thermal⟩ ∈ s.commonLimits z := by
  simp [State.commonLimits, h]

/-- The thermal limit is in force as R11 gives it. -/
theorem limitInForce_thermal {v : Nat}
    (h : thermalLimit s.authority.settings (s.drive.zones.get z).record.lmax (s.entry z .thermFault).asserted
      (s.monitor.zones.get z).latest = some v) : LimitInForce s z ⟨v, .thermal⟩ := by
  unfold thermalLimit at h
  split at h
  next failed =>
    cases h
    exact .thermFault failed
  next sound =>
    have sound : (s.entry z .thermFault).asserted = false := by simpa using sound
    split at h
    next => cases h
    next c latest =>
      split at h
      next => cases h
      next above =>
        have above := Int.not_le.1 above
        split at h
        next cut =>
          cases h
          exact .thermalCut sound c latest above cut
        next below =>
          cases h
          have below := Int.not_le.1 below
          refine .thermalRange sound c latest above below _ (Int.toNat_of_nonneg ?_)
          exact Int.ediv_nonneg (Int.mul_nonneg (Int.natCast_nonneg _) (by omega)) (by omega)

theorem limitInForce_of_common (mem : l ∈ s.commonLimits z) : LimitInForce s z l := by
  simp only [State.commonLimits, List.mem_append, List.mem_singleton] at mem
  rcases mem with (thermal | fault) | rfl
  · split at thermal
    next v limit =>
      rw [List.mem_singleton.1 thermal]
      exact limitInForce_thermal limit
    next => cases thermal
  · split at fault
    next caps =>
      rw [List.mem_singleton.1 fault]
      exact .fault (by simpa [State.faultCapInForce] using caps)
    next => cases fault
  · exact .physical

/-- The schedule limit is in force for a zone without a FORCE, as SCHEDULE or as FAILSAFE (R9). -/
theorem limitInForce_schedule (ordinary : ∀ e ∈ s.authority.stack, ¬Covers e .force z) :
    LimitInForce s z (s.scheduleLimit (s.drive.zones.get z).record.cls) := by
  by_cases dark : s.authority.mode = .failsafe ∨ ¬ScheduleValid s
  · rw [State.scheduleLimit_of_failsafe dark]
    have limit := LimitInForce.failsafe ordinary dark
    cases cls : (s.drive.zones.get z).record.cls <;> rw [cls] at limit <;> exact limit
  · obtain ⟨normal, scheduled⟩ := not_or.1 dark
    obtain ⟨valid, some⟩ := not_not.1 scheduled
    obtain ⟨a, active⟩ := Option.ne_none_iff_exists'.1 some
    have mode : s.authority.mode = .normal := by
      cases mode : s.authority.mode
      · rfl
      · exact absurd mode normal
    have limit := LimitInForce.schedule ordinary a mode valid active
    cases cls : (s.drive.zones.get z).record.cls <;> rw [cls] at limit <;>
      simpa [State.scheduleLimit, mode, valid, active] using limit

/-- The limits of a zone, in the order of R15. -/
def State.limits (s : State) (z : Zone) : List Limit :=
  match chosenForce s.authority.stack z with
  | some f => ⟨f.level, .force⟩ :: s.commonLimits z
  | none =>
    s.scheduleLimit (s.drive.zones.get z).record.cls ::
      ((match capLevel s.authority.stack z with
          | some v => [⟨v, .cap⟩]
          | none => []) ++ s.commonLimits z)

theorem limitInForce_of_mem_limits (mem : l ∈ s.limits z) : LimitInForce s z l := by
  unfold State.limits at mem
  split at mem
  next f chosen =>
    obtain ⟨older, newer, stack, covers, high, newest⟩ := isChosen_of_chosenForce chosen
    rcases List.mem_cons.1 mem with rfl | common
    · exact .force older newer f stack covers high newest
    · exact limitInForce_of_common common
  next free =>
    have ordinary := chosenForce_eq_none_iff.1 free
    rcases List.mem_cons.1 mem with rfl | mem
    · exact limitInForce_schedule ordinary
    · rcases List.mem_append.1 mem with cap | common
      · split at cap
        next v level =>
          rw [List.mem_singleton.1 cap]
          obtain ⟨⟨e, mem, covers, rfl⟩, least⟩ := (capLevel_spec _ _).2 v level
          exact .cap ordinary e mem covers least
        next => cases cap
      · exact limitInForce_of_common common

theorem mem_limits_of_common (mem : l ∈ s.commonLimits z) : l ∈ s.limits z := by
  unfold State.limits
  split
  · exact List.mem_cons_of_mem _ mem
  · exact List.mem_cons_of_mem _ (List.mem_append_right _ mem)

theorem mem_limits_of_limitInForce (h : LimitInForce s z l) : l ∈ s.limits z := by
  cases h with
  | failsafe ordinary dark =>
    simp only [State.limits, chosenForce_eq_none_iff.2 ordinary, State.scheduleLimit_of_failsafe dark]
    cases (s.drive.zones.get z).record.cls <;> exact List.mem_cons_self
  | schedule ordinary a mode valid active =>
    simp only [State.limits, chosenForce_eq_none_iff.2 ordinary, State.scheduleLimit, mode, valid, active]
    cases (s.drive.zones.get z).record.cls <;> exact List.mem_cons_self
  | cap ordinary c mem covers least =>
    obtain ⟨free, spec⟩ := capLevel_spec s.authority.stack z
    obtain ⟨v, level⟩ := Option.ne_none_iff_exists'.1 fun none => free.1 none c mem covers
    obtain ⟨⟨e, memE, coversE, rfl⟩, leastE⟩ := spec v level
    have same : c.level = e.level := Nat.le_antisymm (least e memE coversE) (leastE c mem covers)
    simp only [State.limits, chosenForce_eq_none_iff.2 ordinary, level, same]
    exact List.mem_cons_of_mem _ List.mem_cons_self
  | force older newer f stack covers high newest =>
    simp only [State.limits, chosenForce_of_isChosen ⟨older, newer, stack, covers, high, newest⟩]
    exact List.mem_cons_self
  | thermFault failed => exact mem_limits_of_common (mem_thermal_of_limit (by simp [thermalLimit, failed]))
  | thermalRange sound c latest above below v value =>
    refine mem_limits_of_common (mem_thermal_of_limit ?_)
    simp [thermalLimit, sound, latest, Int.not_le.2 above, Int.not_le.2 below, ← value]
  | thermalCut sound c latest above cut =>
    refine mem_limits_of_common (mem_thermal_of_limit ?_)
    simp [thermalLimit, sound, latest, Int.not_le.2 above, cut]
  | fault caps =>
    have caps : s.faultCapInForce z = true := by simpa [State.faultCapInForce] using caps
    exact mem_limits_of_common (by simp [State.commonLimits, caps])
  | physical => exact mem_limits_of_common (by simp [State.commonLimits])

/-- The limits stand in the order of their codes (R15). -/
theorem limits_sorted (s : State) (z : Zone) : (s.limits z).Pairwise fun a b => a.reason.code ≤ b.reason.code := by
  have common : (s.commonLimits z).Pairwise (fun a b => a.reason.code ≤ b.reason.code) ∧
      ∀ l ∈ s.commonLimits z, 5 ≤ l.reason.code := by
    simp only [State.commonLimits]
    cases thermalLimit s.authority.settings (s.drive.zones.get z).record.lmax (s.entry z .thermFault).asserted
      (s.monitor.zones.get z).latest <;> cases s.faultCapInForce z <;> simp [CeilingReason.code]
  obtain ⟨sorted, late⟩ := common
  have schedule (cls : ZoneClass) : (s.scheduleLimit cls).reason.code ≤ 2 := by
    unfold State.scheduleLimit
    split
    · cases cls <;> simp [CeilingReason.code]
    · simp [CeilingReason.code]
  unfold State.limits
  split
  next f _ => exact List.pairwise_cons.2 ⟨fun l mem => (Nat.le_succ 4).trans (late l mem), sorted⟩
  next =>
    cases capLevel s.authority.stack z with
    | none => exact List.pairwise_cons.2 ⟨fun l mem => ((schedule _).trans (by omega)).trans (late l mem), sorted⟩
    | some v =>
      have cap : ∀ l ∈ s.commonLimits z, CeilingReason.cap.code ≤ l.reason.code := fun l mem =>
        (by decide : CeilingReason.cap.code ≤ 5).trans (late l mem)
      refine List.pairwise_cons.2 ⟨fun l mem => ?_, List.pairwise_cons.2 ⟨cap, sorted⟩⟩
      rcases List.mem_cons.1 mem with rfl | mem
      · exact (schedule _).trans (by decide : 2 ≤ CeilingReason.cap.code)
      · exact ((schedule _).trans (by omega)).trans (late l mem)

/-- A ceiling is the least of the limits, the first of equal ones (R13 to R15). -/
theorem ceilingLimit_eq_leastLimit (s : State) (z : Zone) :
    ∃ first rest, s.limits z = first :: rest ∧ s.ceilingLimit z = leastLimit first rest := by
  unfold State.limits State.ceilingLimit
  cases chosenForce s.authority.stack z with
  | none => exact ⟨_, _, rfl, rfl⟩
  | some f => exact ⟨_, _, rfl, rfl⟩

/-- Settles O19: the recorded ceiling is the least of the limits listed, which are those in force. -/
theorem ceilingIsTheLeastLimitInForce : Obligations.CeilingIsTheLeastLimitInForce := by
  intro s z run on
  refine ⟨_, rfl, ?_⟩
  have recorded := resolver_get_of_resolveExpiry run rfl z
  rw [if_pos on] at recorded
  obtain ⟨first, rest, limits, ceiling⟩ := ceilingLimit_eq_leastLimit s z
  obtain ⟨mem, least⟩ := leastLimit_spec first rest
  have named := leastLimit_first (limits ▸ limits_sorted s z)
  rw [← limits] at mem least named
  rw [recorded]
  change LimitInForce s z (s.ceilingLimit z) ∧ ∀ l, LimitInForce s z l →
    (s.ceilingLimit z).value ≤ l.value ∧ (l.value = (s.ceilingLimit z).value → (s.ceilingLimit z).reason.code ≤ l.reason.code)
  rw [ceiling]
  exact ⟨limitInForce_of_mem_limits mem, fun l limit =>
    ⟨least l (mem_limits_of_limitInForce limit), named l (mem_limits_of_limitInForce limit)⟩⟩

end Sys2Proof.Machine
end

section
/-! PROOF. O20: what a resolve expiry leaves, stage by stage, and the scan that it begins. -/

namespace Sys2Proof.Machine

variable {s t : State} {z : Zone}

/-! ### The new present level, case by case (R18 to R20) -/

section
variable {a : AuthSettings} {grade p c target : Nat}

theorem newPresent_of_rise (h : p ≤ c) (rise : p < target) :
    newPresent a grade false false p target c = min target (p + upStep a grade p) := by
  simp [newPresent, Nat.not_lt.2 h, rise]

theorem newPresent_of_fall (h : p ≤ c) (fall : target < p) :
    newPresent a grade false false p target c = max target (p - downStep a p) := by
  simp [newPresent, Nat.not_lt.2 h, Nat.not_lt.2 fall.le, fall]

theorem newPresent_of_reached (h : p ≤ c) : newPresent a grade false false p p c = p := by
  simp [newPresent, Nat.not_lt.2 h]

end

/-- The grade that a resolve expiry uses is 0 exactly while E_f is unset or the grade is 0 (R4, R19). -/
theorem State.resolverGrade_eq_zero_iff (s : State) :
    s.resolverAmbient.2 = 0 ↔ s.ambient.filtered = none ∨ s.ambient.grade = 0 := by
  unfold State.resolverAmbient
  cases s.ambient.filtered <;> simp

theorem State.upStep_eq (s : State) (p : Nat) :
    upStep s.authority.settings s.resolverAmbient.2 p =
      if s.ambient.filtered = none ∨ s.ambient.grade = 0 then
        max 1 (max s.authority.settings.upAbs (p * s.authority.settings.upRel / 256) / 2)
      else max s.authority.settings.upAbs (p * s.authority.settings.upRel / 256) := by
  simp only [upStep, State.resolverGrade_eq_zero_iff]

theorem Authority.killFor_iff (a : Authority) : a.killFor z = true ↔ KillCovers a z := by
  rw [Authority.killFor_eq, Bool.and_eq_true, Authority.killInForce_iff]

/-! ### The scan (R107) -/

theorem allZones_sorted : allZones.Pairwise (· < ·) := by decide

/-- The scan goes on with the first installed zone at or after a number (R107). -/
theorem State.nextScanZone_spec (s : State) (n : Nat) :
    (s.nextScanZone n = none ↔ ∀ z : Zone, n ≤ z.val → s.installed z = false) ∧
      ∀ c, s.nextScanZone n = some c → c.discarded = false ∧ n ≤ c.zone.val ∧ s.installed c.zone = true ∧
        ∀ y : Zone, n ≤ y.val → y < c.zone → s.installed y = false := by
  constructor
  · simp [State.nextScanZone, mem_allZones]
  · intro c next
    obtain ⟨z, found, rfl⟩ := Option.map_eq_some_iff.1 next
    obtain ⟨holds, before, after, split, free⟩ := List.find?_eq_some_iff_append.1 found
    simp only [Bool.and_eq_true, decide_eq_true_eq] at holds
    obtain ⟨late, on⟩ := holds
    refine ⟨rfl, late, on, fun y lateY less => ?_⟩
    have sorted := split ▸ allZones_sorted
    obtain ⟨-, tail, -⟩ := List.pairwise_append.1 sorted
    have mem : y ∈ before := by
      have all := split ▸ mem_allZones y
      rcases List.mem_append.1 all with early | rest
      · exact early
      · rcases List.mem_cons.1 rest with rfl | rest
        · exact absurd less (lt_irrefl _)
        · exact absurd less (lt_asymm (List.rel_of_pairwise_cons tail rest))
    simpa [lateY] using free y mem

/-! ### The expiry -/

/-- What a resolve expiry leaves of an installed zone (R16 to R21), its stages in the words of the statement. -/
theorem State.resolveZone_spec (s : State) (z : Zone) :
    let a := s.authority.settings
    let r := s.resolver.get z
    let c := (s.resolveZone z).ceiling
    let target := (s.resolveZone z).target
    let before := if r.fromZero then 0 else r.present
    let up := max a.upAbs (before * a.upRel / 256)
    let u := if s.ambient.filtered = none ∨ s.ambient.grade = 0 then max 1 (up / 2) else up
    let d := max a.downAbs (before * a.downRel / 256)
    let blanked := (∃ e ∈ s.authority.stack, Covers e .blank z) ∨ KillCovers s.authority z ∨
      s.lockedOut z = true ∨ r.operator = .off
    let forced := ∃ e ∈ s.authority.stack, Covers e .force z
    (forced → target = c) ∧
      (¬forced → target = min (if r.operator = .on then s.curveLuminance * r.gain / 256 else 0) c) ∧
      (blanked → (s.resolveZone z).present = 0) ∧
      (¬blanked → c < before → (s.resolveZone z).present = c) ∧
      (¬blanked → before ≤ c → forced → (s.resolveZone z).present = target) ∧
      (¬blanked → before ≤ c → ¬forced → before < target → (s.resolveZone z).present = min target (before + u)) ∧
      (¬blanked → before ≤ c → ¬forced → target < before → (s.resolveZone z).present = max target (before - d)) ∧
      (¬blanked → before ≤ c → ¬forced → target = before → (s.resolveZone z).present = before) := by
  intro a r c target before up u d blanked forced
  have blankedIff : s.blanked z = true ↔ blanked := by rw [State.blanked_iff, Authority.killFor_iff]
  have forcedIff : (chosenForce s.authority.stack z).isSome = true ↔ forced := chosenForce_isSome_iff _ _
  have step : upStep a s.resolverAmbient.2 before = u := s.upStep_eq before
  have present (bright : ¬blanked) (force : Bool) (h : (chosenForce s.authority.stack z).isSome = force) :
      (s.resolveZone z).present = newPresent a s.resolverAmbient.2 false force before target c := by
    rw [State.resolveZone_present, h, show s.blanked z = false by simpa using mt blankedIff.1 bright]
    rfl
  have free (h : ¬forced) : (chosenForce s.authority.stack z).isSome = false := by simpa using mt forcedIff.1 h
  refine ⟨fun h => State.resolveZone_target_of_force (forcedIff.2 h), fun h => ?_, fun h => ?_, fun bright over_ => ?_,
    fun bright under h => ?_, fun bright under h rise => ?_, fun bright under h fall => ?_, fun bright under h reached => ?_⟩
  · have requested : requestedLevel s.curveLuminance r = if r.operator = .on then s.curveLuminance * r.gain / 256 else 0 := by
      unfold requestedLevel
      cases r.operator <;> rfl
    rw [← requested]
    exact if_neg (by simp [free h])
  · rw [State.resolveZone_present, blankedIff.2 h, newPresent_of_blanked]
  · rw [present bright _ rfl, newPresent_of_ceiling_lt over_]
  · rw [present bright _ (forcedIff.2 h), newPresent_of_force under]
  · rw [present bright _ (free h), newPresent_of_rise under rise, step]
  · rw [present bright _ (free h), newPresent_of_fall under fall]
    rfl
  · rw [present bright _ (free h), reached, newPresent_of_reached under]

/-- A resolve expiry outside a main reset, in one record (R1, R104, R107). -/
theorem exec_resolveExpiry_eq (run : s.supply.inReset = false) :
    exec .resolveExpiry s = .next
      { s with
        resolver := .ofFn fun z => if s.installed z then s.resolveZone z else s.resolver.get z
        drive :=
          { s.drive with
            zones := .ofFn fun z =>
              if s.installed z then
                { s.drive.zones.get z with dutyBuffer := (s.resolveZone z).duty, swapPending := true }
              else s.drive.zones.get z }
        monitor :=
          { s.monitor with
            zones := .ofFn fun z =>
              { s.monitor.zones.get z with
                window := if s.installed z && !s.lockedOut z then .waiting else .idle }
            scanCut := s.authority.settings.cut, scan := s.nextScanZone 0 } } := by
  rw [exec_resolveExpiry, execResolveExpiry, if_pos (by simp [State.running, run])]
  rfl

/-- Settles O20: the blocks' new states by the arm of the expiry, each installed zone's by the stages. -/
theorem resolveExpiryResolvesEveryInstalledZone : Obligations.ResolveExpiryResolvesEveryInstalledZone := by
  intro s run
  obtain ⟨empty, goesOn⟩ := s.nextScanZone_spec 0
  refine ⟨_, exec_resolveExpiry_eq run, rfl, fun z => s.authority.killFor_iff, fun z off => ?off, fun z on => ?zone,
    fun z => ?window, ?_, fun c next => ?scan⟩
  case off => simp [off]
  case zone =>
    simp only [ZoneBank.get_ofFn, if_pos on]
    obtain ⟨forced, free, blanked, over_, force, rise, fall, reached⟩ := s.resolveZone_spec z
    exact ⟨forced, free, blanked, over_, force, rise, fall, reached, rfl, trivial⟩
  case window => simp
  case scan =>
    obtain ⟨whole, -, on, first⟩ := goesOn c next
    exact ⟨whole, on, fun y => first y (Nat.zero_le _)⟩
  exact empty.trans ⟨fun all z => all z (Nat.zero_le _), fun all z _ => all z⟩

end Sys2Proof.Machine
end

section
/-! PROOF. O34, O35 and O36: the period end of a zone, its outputs and the sums of its compares, and the sync events. -/

namespace Sys2Proof.Machine

variable {s t : State} {z : Zone} {c : Channel} {forced auto : Bool}

/-! ### The period end (R92) -/

theorem Drive.autoSwaps_iff (d : Drive) :
    d.autoSwaps = true ↔ d.swapMode = .auto ∨ d.edgeMode = .disabled ∨ d.syncLost = true := by
  unfold Drive.autoSwaps
  rw [Bool.or_eq_true, Bool.not_eq_true', ← Bool.not_eq_true, d.watching_iff, not_and_or, not_not, or_assoc]
  exact or_congr_left ⟨fun h => by cases mode : d.swapMode <;> simp_all, fun h => by simp [h]⟩

theorem Channel.releaseHold_eq (c : Channel) (forced : Bool) : c.releaseHold forced = { c with hold := c.hold && forced } := by
  cases forced <;> simp [Channel.releaseHold]

/-- A period begun by an installed zone: the swap, the polarity and the compare (R92, R93, R95). -/
theorem Channel.beginPeriod_eq (c : Channel) {swap : Prop} [Decidable swap]
    (due : swap ↔ c.firstPeriod = true ∨ auto = true ∧ c.swapPending = true ∨ ¬auto = true ∧ c.armed = true) :
    let duty := if swap then c.dutyBuffer else c.activeDuty
    c.beginPeriod auto =
      { c with
        polarity := c.record.polarity, activeDuty := duty, activeMode := if swap then c.bufferedMode else c.activeMode
        swapPending := if swap then false else c.swapPending, armed := if swap then false else c.armed
        firstPeriod := false, compare := (formCompare duty c.acc c.record.minOn).1
        acc := (formCompare duty c.acc c.record.minOn).2 } := by
  have settled (first : c.firstPeriod = false) : c = { c with firstPeriod := false } := by rw [← first]
  have due : (c.firstPeriod || c.swapDue auto) = decide swap := by
    rw [Bool.eq_iff_iff, decide_eq_true_iff, due]
    cases auto <;> simp [Channel.swapDue]
  have swapped : (if c.firstPeriod then { c.swap with firstPeriod := false } else if c.swapDue auto then c.swap else c) =
      { (if swap then c.swap else c) with firstPeriod := false } := by
    cases first : c.firstPeriod with
    | true =>
      rw [if_pos (of_decide_eq_true (due.symm.trans (by rw [first, Bool.true_or]))), if_pos rfl]
    | false =>
      rw [first, Bool.false_or] at due
      simp only [due, Bool.false_eq_true, if_false, decide_eq_true_eq]
      split
      · exact congrArg Channel.swap (settled first)
      · exact settled first
  unfold Channel.beginPeriod
  rw [swapped]
  by_cases swaps : swap
  · simp only [swaps, if_true]
    rfl
  · simp only [swaps, if_false]

/-! ### The window at a period end (R104, R105) -/

theorem Window.atOtherPeriod_eq (w : Window) : w.atOtherPeriod = if w = .waiting then .waiting else .idle := by
  cases w <;> rfl

theorem Window.atFullPeriod_of_ne {w : Window} (h : w ≠ .waiting) (mode : EffectiveMode) (n : Nat) :
    w.atFullPeriod mode n = .idle := by
  cases w
  case waiting => exact absurd rfl h
  all_goals rfl

/-- The sample points of a PWM period (R105). -/
theorem openWindow_pwm (n : Nat) :
    openWindow .pwm n =
      .opened (if 64 ≤ n then some (n / 2) else none)
        (if 64 ≤ n ∧ 4096 - n < 64 then none else some (n + (4096 - n) / 2)) := by
  have off : (n < 64 ∨ 64 ≤ 4096 - n) ↔ ¬(64 ≤ n ∧ 4096 - n < 64) := by omega
  simp only [openWindow, Config.sampleRoom, Config.periodCounts, onMiddle, offMiddle, off, ite_not]

theorem windowAtPeriodEnd_of_other {before after : Channel} (w : Window)
    (other : before.record.installed = false ∨ before.record.phase ≠ before.phase) :
    windowAtPeriodEnd before after w = if w = .waiting then .waiting else .idle := by
  rw [← Window.atOtherPeriod_eq]
  refine if_neg ?_
  rcases other with off | staged
  · simp [off]
  · simp [Channel.phaseStaged, staged]

theorem windowAtPeriodEnd_of_full {before after : Channel} (w : Window) (on : before.record.installed = true)
    (unstaged : before.record.phase = before.phase) :
    windowAtPeriodEnd before after w = w.atFullPeriod after.effective after.compare :=
  if_pos (by simp [Channel.phaseStaged, on, unstaged])

/-- A period end outside a main reset, in one record (R86, R92, R104). -/
theorem exec_periodEnd_eq (run : s.supply.inReset = false) :
    let after := (s.drive.zones.get z).atPeriodEnd (s.authority.killFor z || s.lockedOut z) s.drive.autoSwaps
    exec (.periodEnd z) s = .next
      { s with
        drive := { s.drive with zones := s.drive.zones.set z after, sharedCount := (s.drive.zones.get z).phase }
        monitor :=
          { s.monitor with
            zones := s.monitor.zones.set z
              { s.monitor.zones.get z with
                window := windowAtPeriodEnd (s.drive.zones.get z) after (s.monitor.zones.get z).window } } } := by
  change Host.Outcome.next _ = _
  rw [if_pos (by simp [State.running, run])]
  rfl

/-- Settles O34: the channel and the window by installation, staged phase and swap. -/
theorem periodEndFormsTheNextPeriod : Obligations.PeriodEndFormsTheNextPeriod := by
  intro s z run c w hold auto swap duty mode sum raw compare
  refine ⟨_, exec_periodEnd_eq run, ?_⟩
  simp only [ZoneBank.get_set, if_true]
  have full (on : c.record.installed = true) (unstaged : c.record.phase = c.phase) :
      c.atPeriodEnd (s.authority.killFor z || s.lockedOut z) s.drive.autoSwaps =
        { c with
          hold, polarity := c.record.polarity, activeDuty := duty, activeMode := mode
          swapPending := if swap then false else c.swapPending, armed := if swap then false else c.armed
          firstPeriod := false, compare, acc := if 16 ≤ sum then sum - 16 else sum } := by
    rw [Channel.atPeriodEnd_of_unstaged on unstaged, Channel.releaseHold_eq]
    exact Channel.beginPeriod_eq { c with hold } (by rw [Drive.autoSwaps_iff])
  refine ⟨rfl, fun off => ?_, fun on staged => ?_, full, fun other => ?_, fun on unstaged passed => ?_,
    fun on unstaged waiting => ?_⟩
  · exact Channel.atPeriodEnd_of_off off
  · rw [Channel.atPeriodEnd_of_staged on staged, Channel.releaseHold_eq]
    rfl
  · exact windowAtPeriodEnd_of_other w other
  · rw [windowAtPeriodEnd_of_full _ on unstaged, Window.atFullPeriod_of_ne passed]
  · rw [windowAtPeriodEnd_of_full _ on unstaged, full on unstaged, show (s.monitor.zones.get z).window = .waiting from waiting]
    refine ⟨fun released pwm => ?_, fun off => ?_⟩
    · simp only [Window.atFullPeriod, Channel.effective, released, pwm, Bool.false_eq_true, if_false, openWindow_pwm]
    · cases held : hold with
      | true => rfl
      | false =>
        have mode : mode = .off := off.resolve_left (by simp [held])
        simp only [Window.atFullPeriod, Channel.effective, mode, Bool.false_eq_true, if_false, openWindow]

/-! ### The output of a channel (R86, R94) -/

theorem Channel.output_eq (c : Channel) (n : Nat) :
    c.output n = match c.effective with
      | .pwm => some (if n < c.compare then decide (c.polarity = .activeHigh) else !decide (c.polarity = .activeHigh))
      | .off | .inactive => some (!decide (c.polarity = .activeHigh))
      | .float => none := by
  unfold Channel.output
  cases c.polarity <;> rfl

/-- The level of a channel at a local count, by the force hold and the active mode (R94). -/
theorem Channel.output_cases (c : Channel) (n : Nat) :
    let on : Bool := decide (c.polarity = .activeHigh)
    (c.hold = true → c.effective = .inactive ∧ c.output n = some (!on)) ∧
      (c.hold = false → c.activeMode = .pwm →
        c.effective = .pwm ∧ c.output n = if n < c.compare then some on else some (!on)) ∧
      (c.hold = false → c.activeMode = .off → c.effective = .off ∧ c.output n = some (!on)) ∧
      (c.hold = false → c.activeMode = .float → c.effective = .float ∧ c.output n = none) := by
  intro on
  refine ⟨fun held => ?_, fun released pwm => ?_, fun released off => ?_, fun released floats => ?_⟩
  · have effective : c.effective = .inactive := by simp [Channel.effective, held]
    rw [Channel.output_eq, effective]
    exact ⟨rfl, rfl⟩
  · have effective : c.effective = .pwm := by simp [Channel.effective, released, pwm]
    rw [Channel.output_eq, effective]
    exact ⟨rfl, apply_ite some ..⟩
  · have effective : c.effective = .off := by simp [Channel.effective, released, off]
    rw [Channel.output_eq, effective]
    exact ⟨rfl, rfl⟩
  · have effective : c.effective = .float := by simp [Channel.effective, released, floats]
    rw [Channel.output_eq, effective]
    exact ⟨rfl, rfl⟩

theorem countP_range_lt (k n : Nat) : (List.range n).countP (fun i => decide (i < k)) = min n k := by
  induction n with
  | zero => simp
  | succ n ih =>
    rw [List.range_succ, List.countP_append, ih, List.countP_singleton]
    by_cases h : n < k <;> simp [h] <;> omega

/-- A PWM period stands at the ON level for as many counts as its compare (R94). -/
theorem Channel.countP_output (released : c.hold = false) (pwm : c.activeMode = .pwm) (range : c.compare ≤ 4096) :
    (List.range 4096).countP (fun n => decide (c.output n = some (decide (c.polarity = .activeHigh)))) = c.compare := by
  have same (n : Nat) : decide (c.output n = some (decide (c.polarity = .activeHigh))) = decide (n < c.compare) := by
    obtain ⟨-, level, -, -⟩ := c.output_cases n
    rw [(level released pwm).2]
    by_cases lit : n < c.compare <;> simp [lit]
  simp only [same]
  rw [countP_range_lt, min_eq_right range]

theorem Drive.localCount_spec (d : Drive) (shared : d.sharedCount ≤ 4095) (phase : (d.zones.get z).phase ≤ 4095) :
    d.localCount z ≤ 4095 ∧ (d.localCount z + (d.zones.get z).phase) % 4096 = d.sharedCount := by
  simp only [Drive.localCount, Config.periodCounts]
  omega

/-! ### Sixteen periods of one duty (R93) -/

/-- The dither accumulator after some period ends at a duty. -/
def accAfter (duty minOn acc k : Nat) : Nat := (fun a => (formCompare duty a minOn).2)^[k] acc

/-- A period end spends a duty and the accumulator on sixteen times its compare and the new accumulator. -/
theorem formCompare_conserves (duty acc minOn : Nat) :
    16 * (formCompare duty acc 0).1 + (formCompare duty acc minOn).2 = duty + acc := by
  simp only [formCompare, Nat.not_lt_zero, if_false]
  split <;> omega

theorem formCompare_le (duty acc minOn : Nat) : (formCompare duty acc minOn).1 ≤ (formCompare duty acc 0).1 := by
  simp only [formCompare, Nat.not_lt_zero, if_false]
  repeat' split
  all_goals omega

/-- Only a duty of 65520 or above forms a full period, and no compare but 0 lies below M. -/
theorem formCompare_full {duty acc : Nat} (minOn : Nat) :
    ((formCompare duty acc minOn).1 = 4096 → 65520 ≤ duty) ∧
      ((formCompare duty acc minOn).1 ≠ 0 → minOn ≤ (formCompare duty acc minOn).1) := by
  simp only [formCompare]
  constructor <;> repeat' split
  all_goals omega

theorem accAfter_le {duty acc : Nat} (full : duty ≤ 65535) (carried : acc ≤ 15) (minOn k : Nat) :
    accAfter duty minOn acc k ≤ 15 := by
  induction k with
  | zero => exact carried
  | succ k ih =>
    rw [accAfter, Function.iterate_succ_apply']
    exact (formCompare_range full ih minOn).2

theorem sum_compare_conserves (duty acc minOn n : Nat) :
    16 * ((List.range n).map fun k => (formCompare duty (accAfter duty minOn acc k) 0).1).sum + accAfter duty minOn acc n =
      n * duty + acc := by
  induction n with
  | zero => simp [accAfter]
  | succ n ih =>
    have last := formCompare_conserves duty (accAfter duty minOn acc n) minOn
    have next : accAfter duty minOn acc (n + 1) = (formCompare duty (accAfter duty minOn acc n) minOn).2 :=
      Function.iterate_succ_apply' ..
    rw [List.range_succ, List.map_append, List.sum_append, List.map_singleton, List.sum_singleton, next,
      Nat.succ_mul n duty]
    omega

theorem sum_compare_le (duty acc minOn n : Nat) :
    ((List.range n).map fun k => (formCompare duty (accAfter duty minOn acc k) minOn).1).sum ≤
      ((List.range n).map fun k => (formCompare duty (accAfter duty minOn acc k) 0).1).sum :=
  List.sum_le_sum fun _ _ => formCompare_le _ _ _

/-- Settles O35: level, counts and sums, each by its lemma. -/
theorem sixteenPeriodsCarryTheFraction : Obligations.SixteenPeriodsCarryTheFraction := by
  refine ⟨Channel.output_cases, fun s z shared phase => ?pins, fun c released pwm range => c.countP_output released pwm range,
    fun duty acc minOn full carried => ?sums⟩
  case pins =>
    obtain ⟨range, count⟩ := s.drive.localCount_spec shared phase
    refine ⟨range, count, ?_⟩
    unfold State.zoneOutput State.running
    cases s.supply.inReset <;> rfl
  case sums =>
    have total := sum_compare_conserves duty acc minOn 16
    have last := accAfter_le full carried minOn 16
    have less := sum_compare_le duty acc minOn 16
    obtain ⟨sum, back⟩ : ((List.range 16).map fun k => (formCompare duty (accAfter duty minOn acc k) 0).1).sum = duty ∧
        accAfter duty minOn acc 16 = acc := by omega
    refine ⟨sum, back, less.trans sum.le, fun k => ?_⟩
    have kept := accAfter_le full carried minOn k
    obtain ⟨most, least⟩ := formCompare_full (duty := duty) (acc := accAfter duty minOn acc k) minOn
    exact ⟨kept, (formCompare_range full kept minOn).1, most, least⟩

/-! ### FSYNC and the sync watch (R87, R96, R97) -/

theorem EdgeMode.names_iff (m : EdgeMode) (high : Bool) :
    m.names high = true ↔ m = .both ∨ m = .rising ∧ high = true ∨ m = .falling ∧ high = false := by
  cases m <;> cases high <;> decide

/-- The first level taken after a main reset is no sync event (R96). -/
theorem State.takeFsync_of_none {high : Bool} (first : s.drive.fsync = none) :
    s.takeFsync high = { s with drive := { s.drive with fsync := some high } } := by
  simp only [State.takeFsync, first]
  rfl

/-- A level that the edge mode names none of changes the taken level alone (R96). -/
theorem State.takeFsync_of_unnamed {high : Bool} (h : s.drive.fsync = some high ∨ s.drive.edgeMode.names high = false) :
    s.takeFsync high = { s with drive := { s.drive with fsync := some high } } := by
  cases taken : s.drive.fsync with
  | none => exact State.takeFsync_of_none taken
  | some before =>
    simp only [State.takeFsync, taken]
    refine if_neg ?_
    rcases h with same | unnamed
    · simp [Option.some.inj (taken.symm.trans same)]
    · simp [unnamed]

/-- A named change of the level has the effects of a sync event (R96). -/
theorem State.takeFsync_of_named {high : Bool} (change : s.drive.fsync = some (!high))
    (named : s.drive.edgeMode.names high = true) :
    s.takeFsync high = State.syncEffects { s with drive := { s.drive with fsync := some high } } := by
  simp only [State.takeFsync, change, named]
  exact if_pos (by cases high <;> rfl)

theorem exec_fsyncLevelTaken {high : Bool} (run : s.supply.inReset = false) :
    exec (.fsyncLevelTaken high) s = .next (s.takeFsync high) := by
  change Host.Outcome.next _ = _
  rw [if_pos (by simp [State.running, run])]

theorem exec_syncEvent {high : Bool} (run : s.supply.inReset = false) (change : s.drive.fsync = some (!high))
    (named : s.drive.edgeMode.names high = true) : exec (.syncEvent high) s = .next (s.takeFsync high) := by
  change Host.Outcome.next _ = _
  rw [if_pos (by simp [State.running, run, change, named])]

/-- Settles O36: the rows of the count clock, of FSYNC and of the sync watch. -/
theorem syncEventsArmAndTheirLossIsRecorded : Obligations.SyncEventsArmAndTheirLossIsRecorded := by
  refine ⟨fun s run => ?clock, fun s c high run own change named => ?event, fun s high run quiet => ?level,
    fun s run frame enabled held => ?expiry⟩
  case clock =>
    change Host.Outcome.next _ = _
    rw [if_pos (by simp [State.running, run])]
    rfl
  case event =>
    have named := (EdgeMode.names_iff ..).2 named
    have taken : exec c s = .next (s.takeFsync high) := by
      rcases own with rfl | rfl
      · exact exec_syncEvent run change named
      · exact exec_fsyncLevelTaken run
    rw [taken, State.takeFsync_of_named change named]
    refine ⟨fun frame => ?_, fun auto => ?_⟩
    · have enabled : s.drive.edgeMode ≠ .disabled := fun off => by simp [off, EdgeMode.names] at named
      exact congrArg _ (State.syncEffects_eq { s with drive := { s.drive with fsync := some high } }
        ((Drive.watching_iff _).2 ⟨frame, enabled⟩))
    · have unwatched : ¬Drive.watching { s.drive with fsync := some high } = true := by
        simp [Drive.watching_iff, auto]
      exact congrArg _ (if_neg unwatched)
  case level =>
    rw [exec_fsyncLevelTaken run]
    refine congrArg _ ?_
    rcases quiet with first | same | unnamed
    · exact State.takeFsync_of_none first
    · exact State.takeFsync_of_unnamed (.inl same)
    · refine State.takeFsync_of_unnamed (.inr ?_)
      rcases unnamed with off | ⟨rising, rfl⟩ | ⟨falling, rfl⟩
      · rw [off]
        rfl
      · rw [rising]
        rfl
      · rw [falling]
        rfl
  case expiry =>
    have watching := (Drive.watching_iff _).2 ⟨frame, enabled⟩
    change Host.Outcome.next _ = _
    rw [if_pos (by simp [State.running, run, watching, held])]
    rfl

end Sys2Proof.Machine
end

section
/-! PROOF. O37 and O38: one outcome's effect on its pair, case by case (R110, R113), and the samples and conversions that give
the outcomes (R105 to R109). -/

namespace Sys2Proof.Machine

variable {s t : State} {z : Zone} {k : FaultKind} {detail : Nat}

/-! ### A value stored twice -/

theorem ZoneBank.set_set {α : Type} (b : ZoneBank α) (z : Zone) (x y : α) : (b.set z x).set z y = b.set z y :=
  ZoneBank.ext_get _ _ fun i => by
    by_cases here : i = z <;> simp [here]

theorem KindBank.set_set {α : Type} (b : KindBank α) (k : FaultKind) (x y : α) : (b.set k x).set k y = b.set k y :=
  KindBank.ext_get _ _ fun i => by
    by_cases here : i = k <;> simp [here]

/-- Of two writes of one entry the second stands. -/
theorem State.setEntry_setEntry (s : State) (z : Zone) (k : FaultKind) (e f : FaultEntry) :
    (s.setEntry z k e).setEntry z k f = s.setEntry z k f := by
  simp only [State.setEntry_eq, ZoneBank.get_set, if_true, ZoneBank.set_set, KindBank.set_set]

/-! ### One outcome (R110) -/

theorem State.qualify_bad_of_lt (below : (s.entry z k).count + 1 < s.monitor.limit) :
    s.qualify z k .bad detail = s.setEntry z k { s.entry z k with count := (s.entry z k).count + 1 } :=
  if_pos below

theorem State.qualify_bad_of_asserted (reached : s.monitor.limit ≤ (s.entry z k).count + 1)
    (asserted : (s.entry z k).asserted = true) :
    s.qualify z k .bad detail = s.setEntry z k { s.entry z k with count := s.monitor.limit } :=
  (if_neg (Nat.not_lt.2 reached)).trans (if_pos asserted)

/-- An assertion: flag, raise count, timestamp and record, with a lockout where the reaction is OFF (R110, R113, R120). -/
theorem State.qualify_bad_of_clear (reached : s.monitor.limit ≤ (s.entry z k).count + 1)
    (clear : (s.entry z k).asserted = false) :
    let raised := (s.setEntry z k ⟨s.monitor.limit, true, min 255 ((s.entry z k).raises + 1), some s.now⟩).report
      ⟨.zone z, .zoneFault k, .raised, detail⟩
    s.qualify z k .bad detail = if (s.monitor.zones.get z).reaction k = .off then raised.lockOut z else raised := by
  have assertion : (s.setCount z k s.monitor.limit).assertFault z k detail =
      (s.setEntry z k ⟨s.monitor.limit, true, min 255 ((s.entry z k).raises + 1), some s.now⟩).report
        ⟨.zone z, .zoneFault k, .raised, detail⟩ := by
    simp only [State.assertFault, State.setCount_entry, State.setCount_now, Config.byteStop, and_self, if_true]
    rw [State.setCount, State.setEntry_setEntry]
  intro raised
  refine (if_neg (Nat.not_lt.2 reached)).trans ((if_neg (by simp [clear])).trans ?_)
  dsimp only
  rw [assertion]
  rfl

theorem State.qualify_good_of_lt (above : 1 < (s.entry z k).count) :
    s.qualify z k .good detail = s.setEntry z k { s.entry z k with count := (s.entry z k).count - 1 } :=
  if_pos above

theorem State.qualify_good_of_asserted (reached : (s.entry z k).count ≤ 1) (asserted : (s.entry z k).asserted = true) :
    s.qualify z k .good detail =
      (s.setEntry z k { s.entry z k with count := 0, asserted := false }).report
        ⟨.zone z, .zoneFault k, .cleared, detail⟩ :=
  (if_neg (Nat.not_lt.2 reached)).trans (if_pos asserted)

theorem State.qualify_good_of_clear (reached : (s.entry z k).count ≤ 1) (clear : (s.entry z k).asserted = false) :
    s.qualify z k .good detail = s.setEntry z k { s.entry z k with count := 0 } := by
  refine (if_neg (Nat.not_lt.2 reached)).trans ((if_neg (by simp [clear])).trans ?_)
  rw [← clear]

/-- Settles O37: outcome by outcome, by the count and the flag. -/
theorem outcomesMoveTheQualificationCount : Obligations.OutcomesMoveTheQualificationCount := by
  intro s z k detail e q stored
  refine ⟨rfl, State.qualify_bad_of_lt, State.qualify_bad_of_asserted, fun reached clear => ⟨fun other => ?_, fun off => ?_⟩,
    State.qualify_good_of_lt, State.qualify_good_of_asserted, State.qualify_good_of_clear⟩
  · exact (State.qualify_bad_of_clear reached clear).trans (if_neg other)
  · exact (State.qualify_bad_of_clear reached clear).trans (if_pos off)

/-! ### Samples (R105, R106) -/

theorem judge_decide (p : Prop) [Decidable p] : judge (decide p) = if p then .bad else .good := by
  by_cases h : p <;> simp [judge, h]

theorem exec_samplePoint_on {current at_ : Nat} {off : Option Nat} (run : s.supply.inReset = false)
    (on : s.installed z = true) (free : s.lockedOut z = false)
    (window : (s.monitor.zones.get z).window = .opened (some at_) off) :
    exec (.samplePoint z .on current) s = .next (s.sampleOn z at_ off current) := by
  change Host.Outcome.next _ = _
  rw [if_pos (by simp [State.running, run, on, free]), window]

theorem exec_samplePoint_off {current at_ : Nat} {other : Option Nat} (run : s.supply.inReset = false)
    (on : s.installed z = true) (free : s.lockedOut z = false)
    (window : (s.monitor.zones.get z).window = .opened other (some at_)) :
    exec (.samplePoint z .off current) s = .next (s.sampleOff z at_ current) := by
  change Host.Outcome.next _ = _
  rw [if_pos (by simp [State.running, run, on, free]), window]
  cases other <;> rfl

/-! ### Conversions (R107 to R109) -/

theorem endCode_eq (code : Nat) : endCode code = decide (code = 0 ∨ code = 1023) := by
  rw [Bool.eq_iff_iff]
  simp [endCode]

theorem overtempOutcome_eq (code : Nat) (t cut : Int) (thermFault : Bool) :
    overtempOutcome code t cut thermFault =
      if (code = 0 ∨ code = 1023) ∨ thermFault = true then .none
      else if cut ≤ t then .bad
      else if t ≤ cut - 5 then .good
      else .none := by
  simp only [overtempOutcome, endCode_eq, Bool.or_eq_true, decide_eq_true_eq]

/-- The scan goes on with the next installed zone (R107). -/
theorem scanGoesOn_nextScanZone (s : State) (z : Zone) : ScanGoesOn s z (s.nextScanZone (z.val + 1)) := by
  obtain ⟨empty, goesOn⟩ := s.nextScanZone_spec (z.val + 1)
  exact ⟨empty, goesOn⟩

theorem exec_conversionCompletion {code : Fin 1024} {c : Scan} (run : s.supply.inReset = false)
    (scan : s.monitor.scan = some c) :
    let done := if c.discarded || !s.installed c.zone then s else s.convert c.zone code.val
    exec (.conversionCompletion code) s = .next
      { done with monitor := { done.monitor with scan := s.nextScanZone (c.zone.val + 1) } } := by
  change Host.Outcome.next _ = _
  rw [scan]
  exact congrArg _ (if_pos (by simp [State.running, run]))

/-- Settles O38: the sample points by the window, the conversions by the scan. -/
theorem samplesAndConversionsAreQualified : Obligations.SamplesAndConversionsAreQualified := by
  refine ⟨fun s z current at_ off run on free window => ?onPoint, fun s z current at_ other run on free window => ?offPoint,
    fun s code z run scan => ?discarded, fun s code z run on scan => ?converted⟩
  case onPoint =>
    intro c m read
    rw [exec_samplePoint_on run on free window]
    simp only [State.sampleOn, judge_decide]
    rfl
  case offPoint =>
    intro c m read
    rw [exec_samplePoint_off run on free window]
    simp only [State.sampleOff, judge_decide]
    rfl
  case discarded =>
    exact ⟨_, exec_conversionCompletion run scan, rfl, scanGoesOn_nextScanZone s z⟩
  case converted =>
    intro t ended stored therm both done
    have conversion : s.convert z code.val = done := by
      simp only [State.convert, judge, endCode_eq, overtempOutcome_eq, decide_eq_true_eq]
      rfl
    refine ⟨_, exec_conversionCompletion run scan, ?_, scanGoesOn_nextScanZone s z⟩
    dsimp only
    rw [if_neg (by simp [on]), conversion]

end Sys2Proof.Machine
end

section
/-! PROOF. O49, O55 and O56: the requests of the zones and of the Monitor, each over what its operation leaves in one record. -/

namespace Sys2Proof.Machine

variable {s t : State} {p : Port} {r : Request} {z : Zone} {rec : ZoneRecord}

/-! ### ZONE_SETUP (R88 to R91) -/

theorem State.setZoneRecord_of_installs (off : s.installed z = false) (on : rec.installed = true) :
    s.setZoneRecord z rec =
      { s with
        drive :=
          { s.drive with
            zones := s.drive.zones.set z
              ((s.drive.zones.get z).install rec (s.resolver.get z).operator (s.authority.killFor z)) } } := by
  simp only [State.setZoneRecord, off, on]
  rfl

theorem State.setZoneRecord_of_uninstalls (on : s.installed z = true) (off : rec.installed = false) :
    s.setZoneRecord z rec =
      { s with
        drive := { s.drive with zones := s.drive.zones.set z ((s.drive.zones.get z).uninstall rec) }
        resolver := s.resolver.set z
          { s.resolver.get z with
            present := 0, target := 0, ceiling := 0, reason := .none, duty := 0, fromZero := false }
        monitor :=
          { s.monitor with
            zones := s.monitor.zones.set z
              { s.monitor.zones.get z with window := .idle, lockout := false, latest := none }
            scan := s.monitor.scan.map fun x => if x.zone = z then { x with discarded := true } else x }
        recorder := { s.recorder with table := s.recorder.table.set z emptyEntries } } := by
  simp only [State.setZoneRecord, on, off]
  rfl

theorem State.setZoneRecord_of_stages (same : s.installed z = rec.installed) :
    s.setZoneRecord z rec =
      { s with
        drive := { s.drive with zones := s.drive.zones.set z { s.drive.zones.get z with record := rec } } } := by
  cases before : s.installed z <;> simp only [State.setZoneRecord, before, ← same] <;> rfl

theorem modeOf_eq (m : OperatorMode) : modeOf m = if m = .on then .pwm else .off := by cases m <;> rfl

/-- ZONE_SETUP within its lists stores its record, clamped (R88). -/
theorem exec_zoneSetup_admitted {cls : ZoneClass} {polarity : Polarity} (admitted : Admitted s p rowZoneSetup r)
    (zone : r.u1 0 = z.val) (class_ : r.u1 2 = cls.code) (code : r.u1 3 = polarity.zoneCode) :
    ∃ t, exec (.zoneSetup p) s = .next t ∧ Answered s t p ⟨.ok, []⟩ ∧
      ownEffect s t = s.setZoneRecord z
        { installed := decide (r.u1 1 ≠ 0), cls, polarity, lmax := max 100 (min 12000 (r.u2 4))
          minOn := min 63 (r.u1 6), phase := min 4095 (r.u2 7) } := by
  refine ⟨_, rfl, serve_answers admitted ?_ (by simp) (by simp)⟩
  rw [Request.zone_some zone, class_, code]
  simp only [ZoneClass.ofCode_code, Polarity.ofZoneCode_zoneCode, Request.flag_eq, clamp, Nat.zero_max, Config.levelMax]
  rfl

/-- Settles O49: the refusals by the lists, the rest by what the stored record does to the zone's installation. -/
theorem zoneSetupInstallsUninstallsAndStages : Obligations.ZoneSetupInstallsUninstallsAndStages := by
  refine ⟨fun s p r h n d => ⟨_, rfl, serve_refuses_denied h n d⟩,
    fun s p r admitted => ⟨fun out => ?out, fun z cls polarity zone class_ code => ?stored⟩⟩
  case out =>
    refine ⟨_, rfl, serve_refuses admitted ?_⟩
    rcases out with above | above | above
    · rw [Request.zone_none above]
    · rw [ZoneClass.ofCode_none above]
      split <;> simp_all
    · rw [Polarity.ofZoneCode_none above]
      split <;> simp_all
  case stored =>
    obtain ⟨t, runs, answered, own⟩ := exec_zoneSetup_admitted admitted zone class_ code
    refine ⟨t, runs, answered, fun on off => own.trans ?_, fun off on => own.trans ?_, fun same => own.trans ?_⟩
    · rw [State.setZoneRecord_of_installs off (decide_eq_true on), Channel.install, modeOf_eq]
    · exact State.setZoneRecord_of_uninstalls on (decide_eq_false (not_not.2 off))
    · exact State.setZoneRecord_of_stages (Bool.eq_iff_iff.2 (same.symm.trans decide_eq_true_iff.symm))

/-! ### FAULT_SETUP (R114, R115) -/

/-- The codes of the choices of each kind (R103). -/
theorem reactionOfCode_code_range {k : FaultKind} {n : Nat} {x : Reaction} (h : reactionOfCode k n = some x) :
    (k = .openString → n ≤ 1) ∧ (k = .shortString → n = 1 ∨ n = 2) ∧
      (k = .stuckOn ∨ k = .overtemp → n = 0 ∨ n = 2) := by
  unfold reactionOfCode at h
  split at h <;> cases h <;> decide

/-- The reaction codes of a request are choices of their kinds (R114). -/
def Request.reactionsListed (r : Request) : Prop :=
  r.u1 4 ≤ 1 ∧ (r.u1 5 = 1 ∨ r.u1 5 = 2) ∧ (r.u1 6 = 0 ∨ r.u1 6 = 2) ∧ (r.u1 7 = 0 ∨ r.u1 7 = 2)

theorem Request.reactionsListed_of_faultSetup {a : FaultSetupArgs} (h : r.faultSetup = some a) : r.reactionsListed := by
  unfold Request.faultSetup at h
  split at h
  next open_ short stuck overtemp =>
    exact ⟨(reactionOfCode_code_range open_).1 rfl, (reactionOfCode_code_range short).2.1 rfl,
      (reactionOfCode_code_range stuck).2.2 (.inl rfl), (reactionOfCode_code_range overtemp).2.2 (.inr rfl)⟩
  next => cases h

theorem Request.faultSetup_thresholds {a : FaultSetupArgs} (h : r.faultSetup = some a) :
    a.openThreshold = r.u1 2 ∧ a.shortThreshold = r.u1 3 := by
  unfold Request.faultSetup at h
  split at h <;> cases h
  exact ⟨rfl, rfl⟩

theorem Request.faultSetup_some {a b c d : Reaction} (listed : r.reactionsListed) (openCode : r.u1 4 = a.code)
    (shortCode : r.u1 5 = b.code) (stuckCode : r.u1 6 = c.code) (overtempCode : r.u1 7 = d.code) :
    r.faultSetup = some ⟨r.u1 2, r.u1 3, a, b, c, d⟩ := by
  obtain ⟨openList, shortList, stuckList, overtempList⟩ := listed
  rw [openCode] at openList
  rw [shortCode] at shortList
  rw [stuckCode] at stuckList
  rw [overtempCode] at overtempList
  have open_ : reactionOfCode .openString a.code = some a := by
    cases a
    case off => exact absurd openList (by decide)
    all_goals rfl
  have short : reactionOfCode .shortString b.code = some b := by
    cases b
    case none => exact absurd shortList (by decide)
    all_goals rfl
  have stuck : reactionOfCode .stuckOn c.code = some c := by
    cases c
    case dim => exact absurd stuckList (by decide)
    all_goals rfl
  have overtemp : reactionOfCode .overtemp d.code = some d := by
    cases d
    case dim => exact absurd overtempList (by decide)
    all_goals rfl
  simp only [Request.faultSetup, openCode, shortCode, stuckCode, overtempCode, open_, short, stuck, overtemp]

/-- The zones that a FAULT_SETUP locks out: those where it turns the reaction of an asserted kind to OFF (R115). -/
theorem State.setupLocks_iff {mask : ZoneMask} {a : FaultSetupArgs} (noOff : a.openReaction ≠ .off) :
    s.setupLocks mask a z = true ↔
      mask.getLsbD z.val = true ∧ s.installed z = true ∧ s.lockedOut z = false ∧
        ((s.entry z .shortString).asserted = true ∧ (s.monitor.zones.get z).shortReaction ≠ .off ∧ a.shortReaction = .off ∨
          (s.entry z .stuckOn).asserted = true ∧ (s.monitor.zones.get z).stuckReaction ≠ .off ∧ a.stuckReaction = .off ∨
          (s.entry z .overtemp).asserted = true ∧ (s.monitor.zones.get z).overtempReaction ≠ .off ∧
            a.overtempReaction = .off) := by
  have stored (covered : inMask mask z = true) : s.setupAfter mask a z = (s.monitor.zones.get z).withSetup a := if_pos covered
  unfold State.setupLocks
  rw [Bool.and_eq_true, Bool.and_eq_true, Bool.and_eq_true, and_assoc, and_assoc, Bool.not_eq_true']
  refine and_congr_right fun covered => and_congr_right fun _ => and_congr_right fun _ => ?_
  rw [stored covered]
  simp [turnedOff, allKinds, MonitorZone.reaction, MonitorZone.withSetup, noOff, State.entry, and_assoc]

/-- FAULT_SETUP within its lists stores its setup (R114). -/
theorem exec_faultSetup_admitted {a : FaultSetupArgs} (admitted : Admitted s p rowFaultSetup r)
    (args : r.faultSetup = some a) (ordered : ¬(r.mask 0 ≠ 0 ∧ a.shortThreshold ≤ a.openThreshold)) :
    ∃ t, exec (.faultSetup p) s = .next t ∧ Answered s t p ⟨.ok, []⟩ ∧
      ownEffect s t = s.setFaultSetup (r.mask 0) a (max 2 (min 15 (r.u1 8))) := by
  refine ⟨_, rfl, serve_answers admitted ?_ (by simp) (by simp)⟩
  rw [args]
  exact if_neg ordered

/-- What FAULT_SETUP changes besides (R114, R115). -/
theorem State.setFaultSetup_frame (s : State) (mask : ZoneMask) (a : FaultSetupArgs) (q : Nat) :
    let u := s.setFaultSetup mask a q
    u = { s with
      monitor := { s.monitor with limit := q, zones := u.monitor.zones }
      drive := { s.drive with zones := u.drive.zones }
      recorder := { s.recorder with table := u.recorder.table } } := by
  unfold State.setFaultSetup
  dsimp only
  split <;> rfl

/-- Settles O55: the refusals by the lists, the rest zone by zone. -/
theorem faultSetupStoresLocksAndRequalifies : Obligations.FaultSetupStoresLocksAndRequalifies := by
  refine ⟨fun s p r h n d => ⟨_, rfl, serve_refuses_denied h n d⟩,
    fun s p r admitted => ⟨fun out => ?out, fun a b c d listed ordered openCode shortCode stuckCode overtempCode => ?stored⟩⟩
  case out =>
    refine ⟨_, rfl, serve_refuses admitted ?_⟩
    cases args : r.faultSetup with
    | none => rfl
    | some a =>
      refine if_pos ?_
      obtain ⟨openThreshold, shortThreshold⟩ := Request.faultSetup_thresholds args
      rw [openThreshold, shortThreshold]
      have listed := Request.reactionsListed_of_faultSetup args
      exact ⟨fun empty => out ⟨listed, .inl empty⟩, Nat.not_lt.1 fun less => out ⟨listed, .inr less⟩⟩
  case stored =>
    intro q locks
    have noOff : a ≠ .off := by
      rintro rfl
      exact absurd (openCode.symm.trans_le listed.1) (by decide)
    obtain ⟨t, runs, answered, own⟩ :=
      exec_faultSetup_admitted admitted (Request.faultSetup_some listed openCode shortCode stuckCode overtempCode)
        fun ⟨covers, less⟩ => ordered.elim covers (Nat.not_lt.2 less)
    generalize hargs : FaultSetupArgs.mk (r.u1 2) (r.u1 3) a b c d = args at own
    change ownEffect s t = s.setFaultSetup (r.mask 0) args q at own
    have locksIff (z : Zone) : s.setupLocks (r.mask 0) args z = true ↔ locks z := by
      subst hargs
      exact State.setupLocks_iff noOff
    have monitor : t.monitor = (s.setFaultSetup (r.mask 0) args q).monitor := by rw [← own]
    have drive : t.drive = (s.setFaultSetup (r.mask 0) args q).drive := by rw [← own]
    have recorder : t.recorder = (s.setFaultSetup (r.mask 0) args q).recorder := by rw [← own]
    have view (z : Zone) := s.setFaultSetup_zoneView (r.mask 0) args q z
    have monitorAt (z : Zone) := congrArg ZoneView.monitor (view z)
    have channelAt (z : Zone) := congrArg ZoneView.channel (view z)
    refine ⟨t, runs, answered, ?_, fun z => ⟨fun k => ?_, fun uncovered => ?_, fun covered => ?_, ?_⟩⟩
    · rw [own, monitor, drive, recorder]
      exact s.setFaultSetup_frame (r.mask 0) args q
    · rw [State.entry, recorder]
      refine (s.setFaultSetup_entry (r.mask 0) args q z k).trans ?_
      split <;> rfl
    · rw [monitor]
      have free : ¬s.setupLocks (r.mask 0) args z = true := fun h => by
        obtain ⟨covered, -⟩ := (locksIff z).1 h
        exact Bool.noConfusion (uncovered.symm.trans covered)
      exact (monitorAt z).trans ((if_neg free).trans (if_neg (Bool.not_eq_true _ ▸ uncovered)))
    · rw [monitor]
      have after : s.setupAfter (r.mask 0) args z = (s.monitor.zones.get z).withSetup args := if_pos covered
      refine (monitorAt z).trans ?_
      dsimp only
      rw [after]
      subst hargs
      exact if_congr (locksIff z) rfl rfl
    · rw [drive]
      exact (channelAt z).trans (if_congr (locksIff z) rfl rfl)

end Sys2Proof.Machine
end

section
/-! PROOF. O56: ZONE_REARM kind by kind (R116), and the resolve expiry that follows a lockout's end. -/

namespace Sys2Proof.Machine

variable {s t : State} {p : Port} {r : Request} {z : Zone}

/-! ### The kinds of a rearmed zone (R116) -/

theorem Recorder.append_with_table (x : Recorder) (T : ZoneBank (KindBank FaultEntry)) (j : JournalRecord) :
    ({ x with table := T } : Recorder).append j = { x.append j with table := T } := by
  simp only [Recorder.append]
  split <;> rfl

theorem Recorder.appendAll_with_table (x : Recorder) (T : ZoneBank (KindBank FaultEntry)) (l : List JournalRecord) :
    ({ x with table := T } : Recorder).appendAll l = { x.appendAll l with table := T } := by
  induction l generalizing x with
  | nil => rfl
  | cons j l ih => rw [Recorder.appendAll_cons, Recorder.append_with_table, ih, Recorder.appendAll_cons]

/-- The CLEARED records of a rearm over some kinds (R116). -/
def State.rearmRecords (s : State) (z : Zone) (ks : List FaultKind) : List JournalRecord :=
  (ks.filter fun k => (s.entry z k).asserted).map fun k => zoneRecord s.now z k .cleared 0

theorem State.rearmKind_eq (s : State) (z : Zone) (k : FaultKind) :
    ∃ T, s.rearmKind z k =
      { s with recorder := { s.recorder.appendAll (s.rearmRecords z [k]) with table := T } } := by
  unfold State.rearmKind State.rearmRecords
  cases asserted : (s.entry z k).asserted with
  | true =>
    refine ⟨s.recorder.table.set z ((s.recorder.table.get z).set k (s.entry z k).cleared), ?_⟩
    simp only [State.report_eq, State.setEntry_eq, Recorder.append_with_table, asserted, if_true, List.filter_cons_of_pos,
      List.filter_nil, List.map_singleton, Recorder.appendAll_cons, Recorder.appendAll_nil]
    rfl
  | false =>
    refine ⟨s.recorder.table.set z ((s.recorder.table.get z).set k (s.entry z k).cleared), ?_⟩
    simp [asserted, State.setEntry_eq, FaultEntry.cleared]

/-- A rearm's kinds one after another append one record for each that was asserted (R116). -/
theorem foldl_rearmKind_eq {ks : List FaultKind} (once : ks.Nodup) (s : State) (z : Zone) :
    ∃ T, ks.foldl (fun u k => u.rearmKind z k) s =
      { s with recorder := { s.recorder.appendAll (s.rearmRecords z ks) with table := T } } := by
  induction ks generalizing s with
  | nil => exact ⟨s.recorder.table, rfl⟩
  | cons k ks ih =>
    obtain ⟨fresh, once⟩ := List.nodup_cons.1 once
    obtain ⟨T₁, first⟩ := s.rearmKind_eq z k
    obtain ⟨T, rest⟩ := ih once (s.rearmKind z k)
    have others : (s.rearmKind z k).rearmRecords z ks = s.rearmRecords z ks := by
      have same : ks.filter (fun j => ((s.rearmKind z k).entry z j).asserted) =
          ks.filter fun j => (s.entry z j).asserted :=
        List.filter_congr fun j mem => by
          rw [State.rearmKind_entry, if_neg fun ⟨_, here⟩ => fresh (here ▸ mem)]
      rw [State.rearmRecords, same, first]
      rfl
    have records : s.rearmRecords z (k :: ks) = s.rearmRecords z [k] ++ s.rearmRecords z ks := by
      unfold State.rearmRecords
      rw [← List.map_append, ← List.filter_append, List.singleton_append]
    refine ⟨T, ?_⟩
    rw [List.foldl_cons, rest, others, first, records, Recorder.appendAll_append]
    simp only [Recorder.appendAll_with_table]

theorem ZoneBank.set_get_self {α : Type} (b : ZoneBank α) (z : Zone) : b.set z (b.get z) = b :=
  ZoneBank.ext_get _ _ fun i => by
    by_cases here : i = z <;> simp [here]

/-- The whole of a rearm (R116). -/
theorem State.rearm_eq (s : State) (z : Zone) :
    s.rearm z =
      { s with
        recorder :=
          ({ s.recorder with
            table := s.recorder.table.set z
              ⟨(s.entry z .openString).cleared, (s.entry z .shortString).cleared, (s.entry z .stuckOn).cleared,
                (s.entry z .overtemp).cleared, (s.entry z .thermFault).cleared⟩ } : Recorder).appendAll
            (s.rearmRecords z allKinds)
        monitor :=
          { s.monitor with zones := s.monitor.zones.set z { s.monitor.zones.get z with lockout := false } }
        drive :=
          if s.lockedOut z then
            { s.drive with zones := s.drive.zones.set z { s.drive.zones.get z with supplyEnable := true } }
          else s.drive
        resolver :=
          if s.lockedOut z then s.resolver.set z { s.resolver.get z with fromZero := true } else s.resolver } := by
  obtain ⟨T, kinds⟩ := foldl_rearmKind_eq (by decide : allKinds.Nodup) s z
  have table : T = s.recorder.table.set z
      ⟨(s.entry z .openString).cleared, (s.entry z .shortString).cleared, (s.entry z .stuckOn).cleared,
        (s.entry z .overtemp).cleared, (s.entry z .thermFault).cleared⟩ := by
    refine ZoneBank.ext_get _ _ fun y => KindBank.ext_get _ _ fun k => ?_
    have entry := foldl_rearmKind_entry allKinds s z y k
    rw [kinds] at entry
    simp only [mem_allKinds, and_true] at entry
    refine entry.trans ?_
    rw [ZoneBank.get_set]
    by_cases here : y = z
    · rw [if_pos here, if_pos here, here]
      cases k <;> rfl
    · rw [if_neg here, if_neg here]
      rfl
  simp only [State.rearm]
  rw [kinds, table, Recorder.appendAll_with_table s.recorder (s.recorder.table.set z _)]
  cases locked : s.lockedOut z with
  | true => rfl
  | false =>
    have same : { s.monitor.zones.get z with lockout := false } = s.monitor.zones.get z := by rw [← locked]; rfl
    rw [same, ZoneBank.set_get_self]
    rfl

/-! ### The expiry after a lockout's end (R116) -/

/-- A zone whose lockout ended since the last expiry goes on from 0 (R116, R18, R19). -/
theorem State.resolveZone_of_fromZero (ended : (s.resolver.get z).fromZero = true) (free : s.lockedOut z = false) :
    let up := s.authority.settings.upAbs
    let rise := if s.ambient.filtered = none ∨ s.ambient.grade = 0 then max 1 (up / 2) else up
    let blanked := (∃ e ∈ s.authority.stack, Covers e .blank z) ∨ KillCovers s.authority z ∨
      (s.resolver.get z).operator = .off
    let forced := ∃ e ∈ s.authority.stack, Covers e .force z
    (blanked → (s.resolveZone z).present = 0) ∧
      (¬blanked → forced → (s.resolveZone z).present = (s.resolveZone z).target) ∧
      (¬blanked → ¬forced → (s.resolveZone z).present = min (s.resolveZone z).target rise) := by
  have spec := s.resolveZone_spec z
  simp only [ended, if_true, free, Bool.false_eq_true, false_or, Nat.zero_mul, Nat.zero_div, Nat.max_zero, Nat.zero_add] at spec
  obtain ⟨-, -, dark, -, force, rise, -, reached⟩ := spec
  refine ⟨dark, fun bright => force bright (Nat.zero_le _), fun bright free => ?_⟩
  rcases Nat.eq_zero_or_pos (s.resolveZone z).target with none | some
  · rw [reached bright (Nat.zero_le _) free none, none, Nat.zero_min]
  · exact rise bright (Nat.zero_le _) free some

/-- ZONE_REARM of an installed zone rearms it (R116). -/
theorem exec_zoneRearm_admitted (admitted : Admitted s p rowZoneRearm r) (zone : r.u1 0 = z.val)
    (on : s.installed z = true) :
    ∃ t, exec (.zoneRearm p) s = .next t ∧ Answered s t p ⟨.ok, []⟩ ∧ ownEffect s t = s.rearm z := by
  refine ⟨_, rfl, serve_answers admitted ?_ (by simp) (by simp)⟩
  rw [Request.zone_some zone]
  exact if_pos on

/-- Settles O56: the refusals, the rearm in one record, and the next expiry of a zone raised from 0. -/
theorem rearmClearsCountsAssertsAndLockout : Obligations.RearmClearsCountsAssertsAndLockout := by
  refine ⟨fun s p r h n d => ⟨_, rfl, serve_refuses_denied h n d⟩,
    fun s p r admitted => ⟨fun above => ?range, fun z zone => ⟨fun off => ?absent, fun on => ?rearmed⟩⟩⟩
  case range =>
    refine ⟨_, rfl, serve_refuses admitted ?_⟩
    rw [Request.zone_none above]
  case absent =>
    refine ⟨_, rfl, serve_refuses admitted ?_⟩
    rw [Request.zone_some zone]
    exact if_neg (by simp [off])
  case rearmed =>
    intro rearmed
    have run : s.supply.inReset = false := admitted.1.1
    obtain ⟨t, runs, answered, own⟩ := exec_zoneRearm_admitted admitted zone on
    refine ⟨t, runs, answered, own.trans (s.rearm_eq z), ?_⟩
    have running : t.supply.inReset = false := by
      rw [show t.supply = (s.rearm z).supply by rw [← own], State.rearm_supply]
      exact run
    refine ⟨_, exec_resolveExpiry_eq running, ?_⟩
    have whole := own.trans (s.rearm_eq z)
    have drive : (ownEffect s t).drive = _ := congrArg State.drive whole
    have stays : t.installed z = true := by
      rw [State.installed, show t.drive = _ from drive]
      dsimp only
      split
      · rw [ZoneBank.get_set, if_pos rfl]
        exact on
      · exact on
    intro x
    have resolved : x = t.resolveZone z := (ZoneBank.get_ofFn _ z).trans (if_pos stays)
    rw [resolved]
    refine ⟨rfl, fun locked => ?_⟩
    have authority : t.authority = s.authority := by
      rw [show t.authority = (s.rearm z).authority by rw [← own], State.rearm_authority]
    have ambient : t.ambient = s.ambient := by
      rw [show t.ambient = (s.rearm z).ambient by rw [← own], State.rearm_ambient]
    have resolver : t.resolver.get z = { s.resolver.get z with fromZero := true } := by
      have bank : (ownEffect s t).resolver = _ := congrArg State.resolver whole
      rw [show t.resolver = _ from bank]
      dsimp only
      rw [if_pos locked, ZoneBank.get_set, if_pos rfl]
    have free : t.lockedOut z = false := by
      have monitor : (ownEffect s t).monitor = _ := congrArg State.monitor whole
      rw [State.lockedOut, show t.monitor = _ from monitor]
      dsimp only
      rw [ZoneBank.get_set, if_pos rfl]
    have raised := State.resolveZone_of_fromZero (s := t) (z := z) (by rw [resolver]) free
    rw [authority, ambient, resolver] at raised
    exact raised

end Sys2Proof.Machine
end

section
/-! PROOF. For O44 to O46: where the fields of a response stand (R150), and O44: the twelve reads. -/

namespace Sys2Proof.Machine

variable {s t : State} {p : Port} {row : CatalogueRow} {r : Request} {d : List Byte}

/-! ### Fields within appended parts -/

theorem fieldAt_append_left {l m : List Byte} {i n : Nat} (h : i + n ≤ l.length) :
    fieldAt (l ++ m) i n = fieldAt l i n := by
  induction n with
  | zero => rfl
  | succ n ih => rw [fieldAt, fieldAt, ih (by omega), List.getD_append _ _ _ _ (by omega)]

theorem fieldAt_append_right {l m : List Byte} {i n : Nat} (h : l.length ≤ i) :
    fieldAt (l ++ m) i n = fieldAt m (i - l.length) n := by
  induction n with
  | zero => rfl
  | succ n ih =>
    rw [fieldAt, fieldAt, ih, List.getD_append_right _ _ _ _ (by omega), Nat.sub_add_comm h]

/-- The fields of one part among equally long ones. -/
theorem fieldAt_flatMap {α : Type} {f : α → List Byte} {k : Nat} (len : ∀ x, (f x).length = k) (l : List α) {i j n : Nat}
    (h : i < l.length) (inside : j + n ≤ k) : fieldAt (l.flatMap f) (k * i + j) n = fieldAt (f l[i]) j n := by
  induction l generalizing i with
  | nil => exact absurd h (Nat.not_lt_zero i)
  | cons x l ih =>
    rw [List.flatMap_cons]
    cases i with
    | zero =>
      rw [Nat.mul_zero, Nat.zero_add, fieldAt_append_left (by rw [len]; exact inside)]
      rfl
    | succ i =>
      rw [fieldAt_append_right (by rw [len, Nat.mul_succ]; omega), len,
        show k * (i + 1) + j - k = k * i + j by rw [Nat.mul_succ]; omega]
      exact ih (Nat.lt_of_succ_lt_succ h)

theorem stampAt_append_right {l m : List Byte} {i : Nat} {o : Option Timestamp} (h : l.length ≤ i) :
    StampAt (l ++ m) i o ↔ StampAt m (i - l.length) o := by
  rcases o with _ | (time | uptime) <;>
    simp (disch := omega) only [StampAt, fieldAt_append_right, Nat.sub_add_comm]

/-! ### A field past a part of a response (R150, R153) -/

section
variable {a i n : Nat} {b : Bool} {x : Int} {o o' : Option Timestamp}

@[simp] theorem fieldAt_be1_append : fieldAt (be1 a ++ d) (i + 1) n = fieldAt d i n :=
  fieldAt_append_right (l := be1 a) (Nat.le_add_left ..)
@[simp] theorem fieldAt_be2_append : fieldAt (be2 a ++ d) (i + 2) n = fieldAt d i n :=
  fieldAt_append_right (l := be2 a) (Nat.le_add_left ..)
@[simp] theorem fieldAt_be3_append : fieldAt (be3 a ++ d) (i + 3) n = fieldAt d i n :=
  fieldAt_append_right (l := be3 a) (Nat.le_add_left ..)
@[simp] theorem fieldAt_flagByte_append : fieldAt (flagByte b ++ d) (i + 1) n = fieldAt d i n :=
  fieldAt_append_right (l := flagByte b) (Nat.le_add_left ..)
@[simp] theorem fieldAt_signed2_append : fieldAt (signed2 x ++ d) (i + 2) n = fieldAt d i n :=
  fieldAt_append_right (l := signed2 x) (Nat.le_add_left ..)
@[simp] theorem fieldAt_stampBytes_append : fieldAt (stampBytes o ++ d) (i + 7) n = fieldAt d i n := by
  rw [fieldAt_append_right (by simp), stampBytes_length, Nat.add_sub_cancel]

@[simp] theorem stampAt_be1_append : StampAt (be1 a ++ d) (i + 1) o ↔ StampAt d i o :=
  stampAt_append_right (l := be1 a) (Nat.le_add_left ..)
@[simp] theorem stampAt_flagByte_append : StampAt (flagByte b ++ d) (i + 1) o ↔ StampAt d i o :=
  stampAt_append_right (l := flagByte b) (Nat.le_add_left ..)
@[simp] theorem stampAt_stampBytes_append : StampAt (stampBytes o' ++ d) (i + 7) o ↔ StampAt d i o := by
  rw [stampAt_append_right (by simp), stampBytes_length, Nat.add_sub_cancel]
@[simp] theorem stampAt_stampBytes : StampAt (stampBytes o ++ d) 0 o := stampAt_bytes [] d o

/-! ### The field at the head of a response (R150) -/

@[simp] theorem fieldAt_be1_self : fieldAt (be1 a) 0 1 = a % 256 := by
  simp [fieldAt, be1, byteOf]
@[simp] theorem fieldAt_be2_self : fieldAt (be2 a) 0 2 = a % 65536 := by
  simp [fieldAt, be2, byteOf]
  omega
@[simp] theorem fieldAt_be3_self : fieldAt (be3 a) 0 3 = a % 16777216 := by
  simp [fieldAt, be3, byteOf]
  omega
@[simp] theorem fieldAt_be4_self : fieldAt (be4 a) 0 4 = a % 4294967296 := by
  simp [fieldAt, be4, byteOf]
  omega
@[simp] theorem fieldAt_flagByte_self : fieldAt (flagByte b) 0 1 = b.toNat := by
  cases b <;> rfl
@[simp] theorem fieldAt_signed2_self : fieldAt (signed2 x) 0 2 = (x % 65536).toNat := by
  rw [signed2, fieldAt_be2_self, BitVec.toNat_ofInt]
  omega

@[simp] theorem fieldAt_be1_head : fieldAt (be1 a ++ d) 0 1 = a % 256 :=
  (fieldAt_append_left le_rfl).trans fieldAt_be1_self
@[simp] theorem fieldAt_be2_head : fieldAt (be2 a ++ d) 0 2 = a % 65536 :=
  (fieldAt_append_left le_rfl).trans fieldAt_be2_self
@[simp] theorem fieldAt_be3_head : fieldAt (be3 a ++ d) 0 3 = a % 16777216 :=
  (fieldAt_append_left le_rfl).trans fieldAt_be3_self
@[simp] theorem fieldAt_flagByte_head : fieldAt (flagByte b ++ d) 0 1 = b.toNat :=
  (fieldAt_append_left le_rfl).trans fieldAt_flagByte_self
@[simp] theorem fieldAt_signed2_head : fieldAt (signed2 x ++ d) 0 2 = (x % 65536).toNat :=
  (fieldAt_append_left le_rfl).trans fieldAt_signed2_self

end

/-! ### The reads (R140, R151) -/

/-- A read that comes to its own rule answers OK with its data and changes nothing (R140). -/
theorem exec_read {c : Instr} {resp : Request → State → Response} (admitted : Admitted s p row r)
    (runs : exec c s = .next (s.serveRead p row resp)) (own : resp r s = okData d) :
    ∃ t, exec c s = .next t ∧ Answered s t p ⟨.ok, d⟩ ∧ ownEffect s t = s := by
  obtain ⟨answered, kept⟩ := serve_answers (body := fun r t => (t, resp r t)) admitted (by rw [own]) rfl rfl
  exact ⟨_, runs, answered, kept⟩

theorem exec_read_length {c : Instr} {resp : Request → State → Response} {n : Nat} (admitted : Admitted s p row r)
    (runs : exec c s = .next (s.serveRead p row resp)) (own : resp r s = okData d) (len : d.length = n) :
    ∃ t d, exec c s = .next t ∧ Answered s t p ⟨.ok, d⟩ ∧ d.length = n ∧ ownEffect s t = s := by
  obtain ⟨t, runs, answered, kept⟩ := exec_read admitted runs own
  exact ⟨t, d, runs, answered, len, kept⟩

theorem catalogueIsTabled : CatalogueIsTabled := by decide

/-- Settles O44: the catalogue, then read by read. -/
theorem readsAnswerAndChangeNothing : Obligations.ReadsAnswerAndChangeNothing := by
  refine ⟨catalogueIsTabled, fun s p c row r own admitted => ⟨fun n read => ?answers, fun out => ?range⟩⟩
  case answers =>
    have zoneOf (h : r.u1 0 < 16) : r.zone 0 = some ⟨r.u1 0, h⟩ := Request.zone_some rfl
    have entryOf (h : r.u1 0 < 24) : r.entry 0 = some ⟨r.u1 0, h⟩ := Request.entry_some rfl
    rcases read with ⟨rfl, rfl⟩ | ⟨rfl, rfl⟩ | ⟨rfl, rfl⟩ | ⟨rfl, rfl⟩ | ⟨rfl, rfl⟩ | ⟨rfl, rfl⟩ | ⟨rfl, rfl⟩ | ⟨rfl, rfl⟩ |
      ⟨rfl, inRange, rfl⟩ | ⟨rfl, inRange, rfl⟩ | ⟨rfl, inRange, rfl⟩ | ⟨rfl, inRange, rfl⟩ <;> cases own
    · exact exec_read_length admitted rfl rfl (by simp [Authority.killBytes])
    · exact exec_read_length admitted rfl rfl (by simp)
    · exact exec_read_length admitted rfl rfl (by simp)
    · exact exec_read_length admitted rfl rfl (by simp)
    · exact exec_read_length admitted rfl rfl (by rw [flatMap_length _ _ 2 fun _ => rfl]; rfl)
    · exact exec_read_length admitted rfl rfl (by simp [Nat.mul_comm])
    · exact exec_read_length admitted rfl rfl (by simp [Authority.killBytes])
    · exact exec_read_length admitted rfl rfl (by simp)
    · exact exec_read_length admitted rfl (by rw [entryOf inRange]) (by simp)
    · exact exec_read_length admitted rfl (by rw [zoneOf inRange]) (by simp)
    · exact exec_read_length admitted rfl (by rw [zoneOf inRange]) (by simp)
    · exact exec_read_length admitted rfl (by rw [zoneOf inRange]) (by
        cases (s.monitor.zones.get ⟨r.u1 0, inRange⟩).latest <;> simp)
  case range =>
    rcases out with ⟨rfl, above⟩ | ⟨rfl | rfl | rfl, above⟩ <;> cases own
    · exact ⟨_, rfl, serve_refuses admitted (by simp only [Request.entry_none above])⟩
    all_goals exact ⟨_, rfl, serve_refuses admitted (by simp only [Request.zone_none above])⟩

end Sys2Proof.Machine
end

section
/-! PROOF. O45: the bytes of LEVEL_READ, ZONE_READ and FAULT_READ (R150, R153, R154). -/

namespace Sys2Proof.Machine

variable {s t : State} {p : Port} {r : Request} {z : Zone} {d : List Byte}

/-! ### Codes in their tables (R150) -/

theorem ceilingReason_mod_mem (x : CeilingReason) : (x, x.code % 256) ∈ ceilingReasonCodes := by cases x <;> decide
theorem effectiveMode_mod_mem (x : EffectiveMode) : (x, x.code % 256) ∈ effectiveModeCodes := by cases x <;> decide
theorem zoneClass_mod_mem (x : ZoneClass) : (x, x.code % 256) ∈ zoneClassCodes := by cases x <;> decide
theorem zonePolarity_mod_mem (x : Polarity) : (x, x.zoneCode % 256) ∈ zonePolarityCodes := by cases x <;> decide
theorem frequency_mod_mem (x : BaseFrequency) : (x, x.code % 256) ∈ frequencyCodes := by cases x <;> decide
theorem edgeMode_mod_mem (x : EdgeMode) : (x, x.code % 256) ∈ edgeModeCodes := by cases x <;> decide
theorem swapMode_mod_mem (x : SwapMode) : (x, x.code % 256) ∈ swapModeCodes := by cases x <;> decide
theorem reaction_mod_mem (x : Reaction) : (x, x.code % 256) ∈ reactionCodes := by cases x <;> decide

/-! ### The reads -/

/-- The bytes of LEVEL_READ (R25). -/
theorem levelRead_fields (ranges : ZoneRangeLaw s) (compares : CompareLaw s) (zone : r.u1 0 = z.val)
    (admitted : Admitted s p rowLevelRead r) :
    let x := s.resolver.get z
    let c := s.drive.zones.get z
    ∃ t d, exec (.levelRead p) s = .next t ∧ Answered s t p ⟨.ok, d⟩ ∧
      fieldAt d 0 1 = z.val ∧ fieldAt d 1 2 = x.present ∧ fieldAt d 3 2 = x.target ∧ fieldAt d 5 2 = x.ceiling ∧
      (x.reason, fieldAt d 7 1) ∈ ceilingReasonCodes ∧ fieldAt d 8 2 = c.dutyBuffer ∧ fieldAt d 10 2 = c.activeDuty ∧
      fieldAt d 12 2 = c.compare ∧ fieldAt d 14 1 = c.acc ∧
      (c.effective, fieldAt d 15 1) ∈ effectiveModeCodes := by
  obtain ⟨t, runs, answered, -⟩ := exec_read (c := .levelRead p) admitted rfl (by rw [Request.zone_some zone])
  refine ⟨t, _, runs, answered, ?_⟩
  obtain ⟨-, zones⟩ := ranges
  obtain ⟨⟨ceiling, present, target, -⟩, ⟨-, -, -, -, -, active, buffer⟩, -⟩ := zones z
  obtain ⟨compare, acc⟩ := compares z
  have below := z.isLt
  simp [ceilingReason_mod_mem, effectiveMode_mod_mem]
  omega

/-- The bytes of ZONE_READ (R88). -/
theorem zoneRead_fields (ranges : ZoneRangeLaw s) (zone : r.u1 0 = z.val) (admitted : Admitted s p rowZoneRead r) :
    let c := s.drive.zones.get z
    ∃ t d, exec (.zoneRead p) s = .next t ∧ Answered s t p ⟨.ok, d⟩ ∧
      fieldAt d 0 1 = z.val ∧ fieldAt d 1 1 = c.record.installed.toNat ∧
      (c.record.cls, fieldAt d 2 1) ∈ zoneClassCodes ∧ (c.record.polarity, fieldAt d 3 1) ∈ zonePolarityCodes ∧
      fieldAt d 4 2 = c.record.lmax ∧ fieldAt d 6 1 = c.record.minOn ∧
      fieldAt d 7 2 = c.record.phase ∧ fieldAt d 9 2 = c.phase ∧ fieldAt d 11 1 = c.supplyEnable.toNat ∧
      (s.drive.baseFrequency, fieldAt d 12 1) ∈ frequencyCodes ∧ (s.drive.edgeMode, fieldAt d 13 1) ∈ edgeModeCodes ∧
      (s.drive.swapMode, fieldAt d 14 1) ∈ swapModeCodes ∧ fieldAt d 15 1 = s.drive.syncLost.toNat := by
  obtain ⟨t, runs, answered, -⟩ := exec_read (c := .zoneRead p) admitted rfl (by rw [Request.zone_some zone])
  refine ⟨t, _, runs, answered, ?_⟩
  obtain ⟨-, zones⟩ := ranges
  obtain ⟨-, ⟨-, lmax, minOn, staged, phase, -⟩, -⟩ := zones z
  have below := z.isLt
  simp [ZoneRecord.bytes, zoneClass_mod_mem, zonePolarity_mod_mem, frequency_mod_mem, edgeMode_mod_mem, swapMode_mod_mem]
  omega

theorem Conditions.weights_eq (c : Conditions) : c.weights = conditionWeights c := by
  simp only [Conditions.weights, conditionWeights]
  omega

theorem conditionWeights_lt (c : Conditions) : conditionWeights c < 65536 := by
  have bit (b : Bool) : b.toNat ≤ 1 := b.toNat_le
  have := bit c.sensorInvalid.e0
  have := bit c.sensorInvalid.e1
  have := bit c.sensorInvalid.e2
  have := bit c.syncLost
  have := bit c.kill
  have := bit c.clockInvalid
  have := bit c.failsafe
  have := bit c.batteryLow
  have := bit c.backupLost
  unfold conditionWeights
  omega

/-- The latest conversion in FAULT_READ, four zeros where there is none (R154). -/
def latestBytes : Option Conversion → List Byte
  | some y => signed2 y.celsius ++ be2 y.code
  | none => be2 0 ++ be2 0

/-- The data of FAULT_READ (R121, R154). -/
def State.faultData (s : State) (z : Zone) : List Byte :=
  let m := s.monitor.zones.get z
  be1 z.val ++ allKinds.flatMap (fun k => (s.entry z k).bytes) ++ flagByte m.lockout ++
    be1 m.openThreshold ++ be1 m.shortThreshold ++ be1 m.openReaction.code ++ be1 m.shortReaction.code ++
    be1 m.stuckReaction.code ++ be1 m.overtempReaction.code ++ be1 s.monitor.limit ++ flagByte m.latest.isSome ++
    latestBytes m.latest ++ be2 s.recorder.conditions.weights

theorem exec_faultRead (zone : r.u1 0 = z.val) (admitted : Admitted s p rowFaultRead r) :
    ∃ t, exec (.faultRead p) s = .next t ∧ Answered s t p ⟨.ok, s.faultData z⟩ ∧ ownEffect s t = s := by
  refine exec_read admitted rfl ?_
  rw [Request.zone_some zone]
  dsimp only [State.faultData]
  cases (s.monitor.zones.get z).latest <;> rfl

/-- The Fault Table entries in FAULT_READ (R154). -/
theorem faultData_entries (law : QualificationLaw s) (k : FaultKind) (j : Nat)
    (mem : (k, j) ∈ [(FaultKind.openString, 0), (.shortString, 1), (.stuckOn, 2), (.overtemp, 3), (.thermFault, 4)]) :
    let d := s.faultData z
    fieldAt d (1 + 10 * j) 1 = (s.entry z k).count ∧ fieldAt d (2 + 10 * j) 1 = (s.entry z k).asserted.toNat ∧
      fieldAt d (3 + 10 * j) 1 = (s.entry z k).raises % 256 ∧ StampAt d (4 + 10 * j) (s.entry z k).lastRaised := by
  obtain ⟨-, most, counts⟩ := law
  obtain ⟨count, -⟩ := counts z k (mem_allKinds k)
  have small : (s.entry z k).count < 256 := by omega
  simp only [List.mem_cons, Prod.mk.injEq, List.not_mem_nil, or_false] at mem
  rcases mem with ⟨rfl, rfl⟩ | ⟨rfl, rfl⟩ | ⟨rfl, rfl⟩ | ⟨rfl, rfl⟩ | ⟨rfl, rfl⟩ <;>
    simpa [State.faultData, allKinds, FaultEntry.bytes] using small

/-- The zone's setup, its latest conversion and the conditions in FAULT_READ (R121, R154). -/
theorem faultData_setup (ranges : ZoneRangeLaw s) (law : QualificationLaw s) :
    let m := s.monitor.zones.get z
    let d := s.faultData z
    fieldAt d 0 1 = z.val ∧ fieldAt d 51 1 = m.lockout.toNat ∧ fieldAt d 52 1 = m.openThreshold ∧
      fieldAt d 53 1 = m.shortThreshold ∧
      (m.openReaction, fieldAt d 54 1) ∈ reactionCodes ∧ (m.shortReaction, fieldAt d 55 1) ∈ reactionCodes ∧
      (m.stuckReaction, fieldAt d 56 1) ∈ reactionCodes ∧ (m.overtempReaction, fieldAt d 57 1) ∈ reactionCodes ∧
      fieldAt d 58 1 = s.monitor.limit ∧ fieldAt d 59 1 = m.latest.isSome.toNat ∧
      fieldAt d 64 2 = conditionWeights s.recorder.conditions := by
  obtain ⟨-, zones⟩ := ranges
  obtain ⟨-, -, order, short, -⟩ := zones z
  obtain ⟨-, most, -⟩ := law
  have below := z.isLt
  have weights := conditionWeights_lt s.recorder.conditions
  cases latest : (s.monitor.zones.get z).latest <;>
    simp [State.faultData, latestBytes, latest, allKinds, FaultEntry.bytes, reaction_mod_mem, Conditions.weights_eq] <;> omega

/-- The latest conversion in FAULT_READ (R154). -/
theorem faultData_latest (ranges : ZoneRangeLaw s) :
    let d := s.faultData z
    (∀ y, (s.monitor.zones.get z).latest = some y →
      fieldAt d 60 2 = (y.celsius % 65536).toNat ∧ fieldAt d 62 2 = y.code) ∧
      ((s.monitor.zones.get z).latest = none → fieldAt d 60 2 = 0 ∧ fieldAt d 62 2 = 0) := by
  obtain ⟨-, zones⟩ := ranges
  obtain ⟨-, -, -, -, -, -, -, -, agrees⟩ := zones z
  refine ⟨fun y latest => ?_, fun latest => ?_⟩
  · obtain ⟨code, -⟩ := agrees y latest
    simp [State.faultData, latestBytes, latest, allKinds, FaultEntry.bytes]
    omega
  · simp [State.faultData, latestBytes, latest, allKinds, FaultEntry.bytes]

/-- Settles O45, read by read. -/
theorem zoneReadsCarryTheZonesState : Obligations.ZoneReadsCarryTheZonesState := by
  refine fun s p z r ranges compares law zone => ⟨levelRead_fields ranges compares zone, zoneRead_fields ranges zone,
    fun admitted => ?_⟩
  obtain ⟨t, runs, answered, -⟩ := exec_faultRead zone admitted
  obtain ⟨number, lockout, open_, short, openReaction, shortReaction, stuckReaction, overtempReaction, limit, some, weights⟩ :=
    faultData_setup (z := z) ranges law
  obtain ⟨held, empty⟩ := faultData_latest (z := z) ranges
  refine ⟨t, _, runs, answered, number, faultData_entries law, lockout, open_, short, openReaction, shortReaction,
    stuckReaction, overtempReaction, limit, some, ?_, ?_, weights⟩
  · cases latest : (s.monitor.zones.get z).latest with
    | none => exact (empty latest).1
    | some y => exact (held y latest).1
  · cases latest : (s.monitor.zones.get z).latest with
    | none => exact (empty latest).2
    | some y => exact (held y latest).2

end Sys2Proof.Machine
end

section
/-! PROOF. O46: the bytes of the reads of the device (R150, R154), and the codes of the requests. -/

namespace Sys2Proof.Machine

variable {s t : State} {p : Port} {r : Request} {d : List Byte}

/-! ### Codes in their tables, flags in the words of the rules (R150) -/

theorem mode_mod_mem (x : Mode) : (x, x.code % 256) ∈ modeCodes := by cases x <;> decide
theorem resetCause_mod_mem (x : ResetCause) : (x, x.code % 256) ∈ resetCauseCodes := by cases x <;> decide
theorem sensorReason_mod_mem (x : SensorReason) : (x, x.code % 256) ∈ sensorReasonCodes := by cases x <;> decide
theorem overrideKind_mod_mem (x : OverrideKind) : (x, x.code % 256) ∈ overrideKindCodes := by cases x <;> decide
theorem killMode_mod_mem (x : KillMode) : (x, x.code % 256) ∈ killModeCodes := by cases x <;> decide
theorem killPolarity_mod_mem (x : Polarity) : (x, x.killCode % 256) ∈ killPolarityCodes := by cases x <;> decide
theorem holder_mod_mem (x : Port) : (x, holderCode x % 256) ∈ holderCodes := by cases x <;> decide

theorem requestCodesAreTabled : RequestCodesAreTabled := by
  refine ⟨fun x => ?_, fun x => ?_, fun x => ⟨?_, ?_⟩, fun x => ?_, fun x => ?_, fun x => ?_, fun x => ?_, fun x => ?_,
    fun x => ?_⟩ <;> cases x <;> decide

theorem State.scheduleValid_eq (s : State) : s.scheduleValid = decide (ScheduleValid s) :=
  Bool.eq_iff_iff.2 (s.scheduleValid_iff.trans decide_eq_true_iff.symm)

theorem Authority.killInForce_decide (a : Authority) : a.killInForce = decide (KillInForce a) :=
  Bool.eq_iff_iff.2 (a.killInForce_iff.trans decide_eq_true_iff.symm)

theorem Authority.eblankActive_decide (a : Authority) : a.eblankActive = decide (EblankActive a) := by
  rw [Authority.eblankActive_eq, Bool.eq_iff_iff, decide_eq_true_iff]
  unfold EblankActive Authority.activeAs
  cases a.eblank with
  | none => simp
  | some high => cases high <;> cases a.kill.polarity <;> decide

theorem EpochEntry.passes_decide (x : EpochEntry) : x.passes = decide (x.parity = x.fields.parity) :=
  Bool.eq_iff_iff.2 (x.passes_iff.trans decide_eq_true_iff.symm)

/-! ### The reads of fixed fields -/

/-- The bytes of STATUS (R154). -/
theorem status_fields (ambient : AmbientLaw s) (authority : AuthorityLaw s) (uptime : s.supply.uptime < 4294967296)
    (battery : s.supply.battery.getD 0 ≤ 7) (admitted : Admitted s p rowStatus r) :
    let a := s.authority
    let e := s.ambient
    ∃ t d, exec (.status p) s = .next t ∧ Answered s t p ⟨.ok, d⟩ ∧
      (a.mode, fieldAt d 0 1) ∈ modeCodes ∧ fieldAt d 1 1 = (decide (ScheduleValid s)).toNat ∧
      fieldAt d 2 1 = (match s.clock.active with
        | some x => x.index.val
        | none => 0xFF) ∧
      fieldAt d 3 3 = e.filtered.getD 0 ∧ fieldAt d 6 1 = e.filtered.isSome.toNat ∧ fieldAt d 7 1 = e.grade ∧
      fieldAt d 8 1 = (decide (KillInForce a)).toNat ∧ fieldAt d 9 1 = a.latch.toNat ∧
      fieldAt d 10 1 = (decide (EblankActive a)).toNat ∧
      fieldAt d 11 2 = (match a.presence with
        | .disabled => 0xFFFF
        | .seconds n => n) ∧
      fieldAt d 13 1 = s.clock.valid.toNat ∧ fieldAt d 14 1 = s.supply.battery.getD 0xFF ∧
      (s.supply.cause, fieldAt d 15 1) ∈ resetCauseCodes ∧ fieldAt d 16 1 = s.supply.backupLost.toNat ∧
      fieldAt d 17 4 = s.supply.uptime := by
  obtain ⟨t, runs, answered, -⟩ := exec_read (c := .status p) admitted rfl rfl
  refine ⟨t, _, runs, answered, ?_⟩
  obtain ⟨-, -, -, -, -, filtered, -, grade, -⟩ := ambient
  obtain ⟨⟨-, -, window, -⟩, -, ⟨-, timer⟩, -⟩ := authority
  have level : s.supply.battery.getD 255 < 256 := by
    cases held : s.supply.battery with
    | none => decide
    | some n =>
      rw [held] at battery
      exact battery.trans_lt (by decide)
  have presence : s.authority.presence.wire < 65536 := by
    cases held : s.authority.presence with
    | disabled => decide
    | seconds n =>
      rw [held] at timer
      exact (timer (by simp)).trans_lt (by omega)
  have index (x : ActiveEpoch) : x.index.val < 256 := x.index.isLt.trans (by decide)
  have timers : s.authority.presence = .disabled ∨ ∃ n, s.authority.presence = .seconds n := by
    cases s.authority.presence <;> simp
  rcases s.clock.active.eq_none_or_eq_some with active | ⟨x, active⟩ <;> rcases timers with timer | ⟨n, timer⟩ <;>
    rw [timer, Presence.wire] at presence <;>
    simp [Authority.killBytes, mode_mod_mem, resetCause_mod_mem, State.scheduleValid_eq, Authority.killInForce_decide,
      Authority.eblankActive_decide, active, timer, Presence.wire]
  · omega
  · omega
  · have := index x
    omega
  · have := index x
    omega

/-- The bytes of CLOCK_READ (R54). -/
theorem clockRead_fields (schedule : ScheduleLaw s) (admitted : Admitted s p rowClockRead r) :
    ∃ t d, exec (.clockRead p) s = .next t ∧ Answered s t p ⟨.ok, d⟩ ∧
      fieldAt d 0 1 = s.clock.time.year - 2000 ∧ fieldAt d 1 1 = s.clock.time.month ∧
      fieldAt d 2 1 = s.clock.time.day ∧ fieldAt d 3 1 = s.clock.time.hour ∧ fieldAt d 4 1 = s.clock.time.minute ∧
      fieldAt d 5 1 = s.clock.time.second ∧ fieldAt d 6 1 = s.clock.time.weekday ∧
      fieldAt d 7 2 = 60 * s.clock.time.hour + s.clock.time.minute ∧ fieldAt d 9 1 = s.clock.valid.toNat ∧
      fieldAt d 10 1 = s.clock.failed.toNat := by
  obtain ⟨t, runs, answered, -⟩ := exec_read (c := .clockRead p) admitted rfl rfl
  refine ⟨t, _, runs, answered, ?_⟩
  obtain ⟨valid, -⟩ := schedule
  obtain ⟨early, late, -, month, -, day, hour, minute, second⟩ := (CivilTime.valid_iff _).1 valid
  obtain ⟨-, longest⟩ := monthLength_range s.clock.time.year s.clock.time.month
  have weekday : s.clock.time.weekday < 7 := Nat.mod_lt _ (by decide)
  simp [CivilTime.bytes, CivilTime.minuteOfDay]
  omega

/-- The bytes of EPOCH_READ (R59). -/
theorem epochRead_fields (schedule : ScheduleLaw s) {i : Fin 24} (entry : r.u1 0 = i.val)
    (admitted : Admitted s p rowEpochRead r) :
    let x := s.clock.epochs.get i
    ∃ t d, exec (.epochRead p) s = .next t ∧ Answered s t p ⟨.ok, d⟩ ∧ fieldAt d 0 1 = i.val ∧
      fieldAt d 1 1 = x.fields.inUse.toNat ∧ fieldAt d 2 2 = x.fields.months.toNat ∧
      fieldAt d 4 1 = x.fields.weekdays.toNat ∧ fieldAt d 5 2 = x.fields.start ∧
      fieldAt d 7 2 = x.fields.commercial ∧ fieldAt d 9 2 = x.fields.authority ∧
      fieldAt d 11 3 = x.fields.fallback ∧ fieldAt d 14 1 = x.fields.dark.toNat ∧
      fieldAt d 15 1 = (decide (x.parity = x.fields.parity)).toNat ∧ fieldAt d 16 1 = x.reported.toNat := by
  obtain ⟨t, runs, answered, -⟩ := exec_read (c := .epochRead p) admitted rfl (by rw [Request.entry_some entry])
  refine ⟨t, _, runs, answered, ?_⟩
  obtain ⟨-, -, -, -, entries, -⟩ := schedule
  obtain ⟨-, -, start, commercial, authority, fallback⟩ := entries i
  have months := (s.clock.epochs.get i).fields.months.isLt
  have weekdays := (s.clock.epochs.get i).fields.weekdays.isLt
  have below := i.isLt
  simp [epochBytes, EpochEntry.passes_decide]
  omega

/-- The bytes of AUTH_READ (R84). -/
theorem authRead_fields (authority : AuthorityLaw s) (admitted : Admitted s p rowAuthRead r) :
    let a := s.authority
    ∃ t d, exec (.authRead p) s = .next t ∧ Answered s t p ⟨.ok, d⟩ ∧
      fieldAt d 0 2 = a.settings.failsafeCommercial ∧ fieldAt d 2 2 = a.settings.failsafeAuthority ∧
      fieldAt d 4 2 = a.settings.window ∧ fieldAt d 6 2 = a.settings.upAbs ∧ fieldAt d 8 1 = a.settings.upRel ∧
      fieldAt d 9 2 = a.settings.downAbs ∧ fieldAt d 11 1 = a.settings.downRel ∧
      (fieldAt d 12 2 : Int) = a.settings.knee % 65536 ∧ (fieldAt d 14 2 : Int) = a.settings.cut % 65536 ∧
      (a.kill.mode, fieldAt d 16 1) ∈ killModeCodes ∧ (a.kill.polarity, fieldAt d 17 1) ∈ killPolarityCodes ∧
      fieldAt d 18 2 = a.kill.mask.toNat ∧ fieldAt d 20 1 = (decide (KillInForce a)).toNat ∧
      fieldAt d 21 1 = a.latch.toNat ∧ fieldAt d 22 1 = (decide (EblankActive a)).toNat := by
  obtain ⟨t, runs, answered, -⟩ := exec_read (c := .authRead p) admitted rfl rfl
  refine ⟨t, _, runs, answered, ?_⟩
  obtain ⟨⟨commercial, authority, window, -, upAbs, upRel, -, downAbs, downRel, -⟩, -⟩ := authority
  have mask := s.authority.kill.mask.isLt
  simp [AuthSettings.bytes, KillSetup.bytes, Authority.killBytes, killMode_mod_mem, killPolarity_mod_mem,
    Authority.killInForce_decide, Authority.eblankActive_decide]
  omega

/-- The bytes of GRANT_READ (R139). -/
theorem grantRead_fields (admitted : Admitted s p rowGrantRead r) :
    ∃ t d, exec (.grantRead p) s = .next t ∧ Answered s t p ⟨.ok, d⟩ ∧
      (s.store.grants.curve, fieldAt d 0 1) ∈ holderCodes ∧ (s.store.grants.zoneSetup, fieldAt d 1 1) ∈ holderCodes ∧
      (s.store.grants.faultSetup, fieldAt d 2 1) ∈ holderCodes ∧ (s.store.grants.clock, fieldAt d 3 1) ∈ holderCodes ∧
      (s.store.grants.driveTiming, fieldAt d 4 1) ∈ holderCodes := by
  obtain ⟨t, runs, answered, -⟩ := exec_read (c := .grantRead p) admitted rfl rfl
  refine ⟨t, _, runs, answered, ?_⟩
  simp [GrantMap.bytes, holder_mod_mem]

/-! ### The reads of lists -/

/-- The bytes of CURVE_READ (R44). -/
theorem curveRead_fields (law : CurveLaw s.ambient.curve) (admitted : Admitted s p rowCurveRead r) :
    ∃ t d, exec (.curveRead p) s = .next t ∧ Answered s t p ⟨.ok, d⟩ ∧
      ∀ i : Fin 9, fieldAt d (5 * i.val) 3 = (s.ambient.curve.get i).b ∧
        fieldAt d (5 * i.val + 3) 2 = (s.ambient.curve.get i).l := by
  obtain ⟨t, runs, answered, -⟩ := exec_read (c := .curveRead p) admitted rfl rfl
  refine ⟨t, _, runs, answered, fun i => ?_⟩
  obtain ⟨-, range⟩ := law
  obtain ⟨breakpoint, level⟩ := range _ ((mem_toList s.ambient.curve _).2 ⟨i, rfl⟩)
  have point : s.ambient.curve.toList[i.val]'(i.isLt) = s.ambient.curve.get i := by fin_cases i <;> rfl
  have part {j n : Nat} (inside : j + n ≤ 5) : fieldAt (curveBytes s.ambient.curve) (5 * i.val + j) n =
      fieldAt (be3 (s.ambient.curve.get i).b ++ be2 (s.ambient.curve.get i).l) j n := by
    rw [curveBytes, fieldAt_flatMap (k := 5) (fun _ => rfl) _ i.isLt inside, point]
  refine ⟨(part (j := 0) (by decide)).trans ?_, (part (j := 3) (by decide)).trans ?_⟩ <;> simp <;> omega

/-- The bytes of GAIN_READ (R7). -/
theorem gainRead_fields (gains : ∀ z, (s.resolver.get z).gain ≤ 256) (admitted : Admitted s p rowGainRead r) :
    ∃ t d, exec (.gainRead p) s = .next t ∧ Answered s t p ⟨.ok, d⟩ ∧
      ∀ z : Zone, fieldAt d (2 * z.val) 2 = (s.resolver.get z).gain := by
  obtain ⟨t, runs, answered, -⟩ := exec_read (c := .gainRead p) admitted rfl rfl
  refine ⟨t, _, runs, answered, fun z => ?_⟩
  have number : allZones[z.val]'(z.isLt) = z := by fin_cases z <;> rfl
  refine (fieldAt_flatMap (k := 2) (fun _ => rfl) allZones (j := 0) z.isLt le_rfl).trans ?_
  rw [number, fieldAt_be2_self]
  exact Nat.mod_eq_of_lt ((gains z).trans_lt (by decide))

/-- The bytes of OVR_LIST (R70). -/
theorem ovrList_fields (authority : AuthorityLaw s) (stack : StackLaw s) (admitted : Admitted s p rowOvrList r) :
    let l := s.authority.stack
    ∃ t d, exec (.ovrList p) s = .next t ∧ Answered s t p ⟨.ok, d⟩ ∧ fieldAt d 0 1 = l.length ∧
      ∀ i (h : i < l.length),
        fieldAt d (1 + 9 * i) 1 = l[i].id ∧ (l[i].kind, fieldAt d (2 + 9 * i) 1) ∈ overrideKindCodes ∧
          fieldAt d (3 + 9 * i) 2 = l[i].mask.toNat ∧ fieldAt d (5 + 9 * i) 2 = l[i].level ∧
          fieldAt d (7 + 9 * i) 1 = l[i].priority ∧ fieldAt d (8 + 9 * i) 2 = l[i].remaining.wire := by
  intro l
  obtain ⟨t, runs, answered, -⟩ := exec_read (c := .ovrList p) admitted rfl rfl
  obtain ⟨-, entries, -⟩ := authority
  obtain ⟨few, -⟩ := stack
  refine ⟨t, _, runs, answered, ?_, fun i h => ?_⟩
  · rw [fieldAt_be1_head]
    exact Nat.mod_eq_of_lt (few.trans_lt (by decide))
  · obtain ⟨-, id, level, priority, remaining, -⟩ := entries l[i] (List.getElem_mem h)
    have mask := l[i].mask.isLt
    have part {j n : Nat} (inside : j + n ≤ 9) :
        fieldAt (be1 l.length ++ l.flatMap Override.bytes) (j + 1 + 9 * i) n = fieldAt l[i].bytes j n := by
      rw [show j + 1 + 9 * i = 9 * i + j + 1 by omega, fieldAt_be1_append,
        fieldAt_flatMap Override.bytes_length l h inside]
    refine ⟨(part (j := 0) (by decide)).trans ?_, ?_, (part (j := 2) (by decide)).trans ?_,
      (part (j := 4) (by decide)).trans ?_, (part (j := 6) (by decide)).trans ?_, (part (j := 7) (by decide)).trans ?_⟩
    · simp [Override.bytes]
      omega
    · rw [show fieldAt _ (2 + 9 * i) 1 = _ from part (j := 1) (by decide)]
      simp [Override.bytes, overrideKind_mod_mem]
    all_goals
      simp [Override.bytes]
      omega

/-- The bytes of SENSOR_READ (R44). -/
theorem sensorRead_fields (ambient : AmbientLaw s) (admitted : Admitted s p rowSensorRead r) :
    let e := s.ambient
    ∃ t d, exec (.sensorRead p) s = .next t ∧ Answered s t p ⟨.ok, d⟩ ∧
      (∀ i : Fin 3,
        fieldAt d (3 * i.val) 1 = (e.staged.sensors.get i).enable.toNat ∧
          fieldAt d (3 * i.val + 1) 2 = (e.staged.sensors.get i).scale ∧
          fieldAt d (11 + 10 * i.val) 3 = (e.sensors.get i).count ∧
          fieldAt d (14 + 10 * i.val) 3 = (e.sensors.get i).lux ∧
          fieldAt d (17 + 10 * i.val) 1 = (decide ((e.sensors.get i).reason = .none)).toNat ∧
          ((e.sensors.get i).reason, fieldAt d (18 + 10 * i.val) 1) ∈ sensorReasonCodes ∧
          fieldAt d (19 + 10 * i.val) 2 = (e.sensors.get i).stuck) ∧
      fieldAt d 9 1 = e.staged.alpha ∧ fieldAt d 10 1 = e.setupPending.toNat ∧ fieldAt d 41 3 = e.fused ∧
      fieldAt d 44 3 = e.filtered.getD 0 ∧ fieldAt d 47 1 = e.filtered.isSome.toNat ∧ fieldAt d 48 1 = e.spike ∧
      fieldAt d 49 1 = e.grade := by
  obtain ⟨t, runs, answered, -⟩ := exec_read (c := .sensorRead p) admitted rfl rfl
  obtain ⟨⟨scales, -, alpha⟩, -, -, sensors, fused, filtered, spike, grade, -⟩ := ambient
  refine ⟨t, _, runs, answered, fun i => ?_, ?_⟩
  · obtain ⟨-, scale⟩ := scales i
    obtain ⟨count, lux, stuck⟩ := sensors i
    fin_cases i <;>
      simp [EstimatorSetup.bytes, Sensor.bytes, SensorBank.get, sensorReason_mod_mem, beq_eq_decide] at scale count lux stuck ⊢ <;> omega
  · simp [EstimatorSetup.bytes, Sensor.bytes]
    omega

/-- Settles O46: the codes, then read by read. -/
theorem deviceReadsCarryTheDevicesState : Obligations.DeviceReadsCarryTheDevicesState :=
  ⟨requestCodesAreTabled, fun _ _ _ schedule ambient authority stack curve uptime battery gains =>
    ⟨status_fields ambient authority uptime battery, clockRead_fields schedule, fun _ => epochRead_fields schedule,
      curveRead_fields curve, sensorRead_fields ambient, gainRead_fields gains, ovrList_fields authority stack,
      authRead_fields authority, grantRead_fields⟩⟩

end Sys2Proof.Machine
end

section
/-! PROOF. O59 and O60: the sources of a main reset, which every command leaves to hold it (R163), and its end (R165). -/

namespace Sys2Proof.Machine

variable {c : Instr} {s t : State} {p : Port} {row : CatalogueRow} {r : Request}

/-! ### A source holds the main reset (R163) -/

/-- A command keeps the law of the sources. -/
def SourceKept (s t : State) : Prop := SourceLaw s → SourceLaw t

theorem SourceKept.of_sources (low : t.supply.supplyLow = s.supply.supplyLow) (pin : t.supply.pinLow = s.supply.pinLow)
    (reset : t.supply.inReset = s.supply.inReset) : SourceKept s t := fun law => by
  unfold SourceLaw
  rw [low, pin, reset]
  exact law

theorem SourceKept.of_supply (h : t.supply = s.supply) : SourceKept s t :=
  .of_sources (by rw [h]) (by rw [h]) (by rw [h])

/-- Under a main reset the law holds whatever the sources. -/
theorem SourceKept.of_reset (h : t.supply.inReset = true) : SourceKept s t := fun _ _ => h

theorem SourceKept.serve {body : Request → State → State × Response}
    (own : ∀ r, (body r s).1.supply = s.supply) : SourceKept s (s.serve p row body) :=
  .of_supply (serve_keeps (P := fun u => u.supply = s.supply) (fun _ _ kept => kept) rfl own)

theorem exec_sourceKept (h : exec c s = .next t) : SourceKept s t := by
  cases c with
  | mainResetEnd a o =>
    cases h
    split
    next ends =>
      simp only [Bool.and_eq_true, Bool.not_eq_true'] at ends
      obtain ⟨⟨-, up⟩, high⟩ := ends
      have supply : (s.restoreBackup).supply = s.supply := by
        unfold State.restoreBackup
        split <;> rfl
      intro _ source
      simp [State.resetMain, supply, up, high] at source
    next => exact .of_supply rfl
  | brownOut | resetNAssert =>
    cases h
    split
    · exact .of_supply rfl
    · exact .of_reset rfl
  | mainSupplyRise =>
    cases h
    exact fun law source => law (.inr (source.resolve_left Bool.false_ne_true))
  | resetNRelease =>
    cases h
    exact fun law source => law (.inl (source.resolve_right Bool.false_ne_true))
  | retentionLoss =>
    cases h
    split
    · exact id
    · exact id
  | deviceReset p =>
    cases h
    repeat' split
    · exact .of_supply rfl
    · exact .of_supply rfl
    · exact .of_supply rfl
    · exact .of_reset rfl
  | uptimeSecond mv first =>
    cases h
    split
    · dsimp only
      split
      · exact .of_sources (by simp [State.batteryAtSecond_eq]) (by simp [State.batteryAtSecond_eq]) (by simp)
      · exact .of_sources (by simp [State.batteryAtSecond_eq]) (by simp [State.batteryAtSecond_eq]) (by simp)
    · exact id
  | status p | clockRead p | epochRead p | curveRead p | sensorRead p | zoneRead p | gainRead p | levelRead p | ovrList p
  | authRead p | grantRead p | faultRead p =>
    cases h
    exact .serve fun _ => rfl
  | clockSet p | epochWrite p | epochErase p | curveWrite p | sensorSetup p | zoneSetup p | gainWrite p | zoneMode p
  | ovrPush p | ovrRemove p | ovrClear p | killSetup p | killRelease p | authSetup p | grantSet p | faultSetup p
  | zoneRearm p | journalRead p | attnRead p | attnMask p | driveSetup p =>
    cases h
    refine .serve fun r => ?_
    repeat' ((try dsimp only); split)
    all_goals simp [State.setGrants_eq]
  | requestTaken _ | writeAddress _ _ | responseRead _ _ | dataByte _ _ | unknownCode _
  | gateCompletion _ _ _ | secondRollover | timebaseFailure _ | timebaseFirstEdge | backupStorageDisturbance _ _
  | overrideExpired | presenceTimeout | eblankActiveEdge | eblankInactiveEdge
  | killStartUpTake _ | resolveExpiry | periodEnd _ | countClockSwitch | fsyncLevelTaken _ | syncEvent _
  | syncWatchExpiry | samplePoint _ _ _ | conversionCompletion _ =>
    cases h
    repeat' ((try dsimp only); split)
    all_goals exact .of_supply (by simp)

/-! ### The start of a main reset (R142, R149, R161, R165) -/

/-- What the start of a main reset leaves, with any supply that is under it: transactions abandoned, nothing served, the outputs
floating, the lines released. -/
theorem State.beginReset_begins (s : State) (source : ResetCause) {x : Supply} (under : x.inReset = true) :
    let t := (s.beginReset source).withSupply x
    t = { s with ports := t.ports, store := { s.store with serving := none }, drive := t.drive, supply := t.supply } ∧
      (∀ p, t.ports.get p =
        { s.ports.get p with receive := .idle, slot := none, snapshot := none, lastAck := false }) ∧
      t.drive = { s.drive with zones := t.drive.zones } ∧
      (∀ z, t.drive.zones.get z = { s.drive.zones.get z with supplyEnable := false } ∧ t.zoneOutput z = none) ∧
      ∀ p, t.attnActive p = false ∧ ∀ i, t.readByte p i = 0xFF := by
  intro t
  have off : t.running = false := by simp [State.running, t, under]
  have port (p : Port) : t.ports.get p =
      { s.ports.get p with receive := .idle, slot := none, snapshot := none, lastAck := false } := by
    cases p <;> rfl
  refine ⟨rfl, port, rfl, fun z => ⟨ZoneBank.get_mapIdx _ _ z, ?_⟩, fun p => ⟨?_, fun i => ?_⟩⟩
  · rw [State.zoneOutput, off]
    rfl
  · rw [State.attnActive, off, Bool.false_and]
  · rw [State.readByte, port p]

/-- Settles O59: the start of a main reset at each of its sources, what ends a source, and that a source holds the reset. -/
theorem sourcesBeginAndHoldAMainReset : Obligations.SourcesBeginAndHoldAMainReset := by
  refine ⟨fun s up => ?brownOut, fun s high => ?pin, fun s r admitted => ?request, fun s => rfl, fun s => rfl,
    fun s a o held => ?held, fun s t law h => ?law, fun s low => ?loss⟩
  case brownOut =>
    refine ⟨_, congrArg Host.Outcome.next (if_neg (by simp [up])), ?_, rfl⟩
    exact s.beginReset_begins .power (x := { (s.beginReset .power).supply with supplyLow := true }) rfl
  case pin =>
    refine ⟨_, congrArg Host.Outcome.next (if_neg (by simp [high])), ?_, rfl⟩
    exact s.beginReset_begins .pin (x := { (s.beginReset .pin).supply with pinLow := true }) rfl
  case request =>
    obtain ⟨service, count, may⟩ := admitted
    have runs : exec (.deviceReset .a) s = .next (s.beginReset .request) := by
      change Host.Outcome.next _ = _
      rw [serviceOf_eq_some.2 service]
      exact congrArg Host.Outcome.next ((if_neg (not_not.2 count)).trans (if_neg
        (show ¬(!permitted s.store.grants .a rowDeviceReset.access) = true from Bool.false_ne_true)))
    exact ⟨_, runs, s.beginReset_begins .request (x := (s.beginReset .request).supply) rfl, rfl⟩
  case held =>
    refine congrArg Host.Outcome.next (if_neg ?_)
    rcases held with low | low | running <;> simp [*]
  case law =>
    rcases step_cases h with rfl | ⟨c, rest, -, run⟩
    · exact law
    · exact exec_sourceKept (s := s.withPending rest) run law
  case loss => exact congrArg Host.Outcome.next (if_pos low)

/-- Settles O60: the state over which the evaluation at the end of a main reset is taken, with and without a loss. -/
theorem mainResetEndRestoresEveryBlock : Obligations.MainResetEndRestoresEveryBlock := by
  intro s strapA strapO under up high
  refine ⟨_, _, congrArg Host.Outcome.next (if_pos (by simp [under, up, high])), State.evaluate_evaluated _, ?_⟩
  cases lost : s.supply.retentionLost with
  | true =>
    simp only [State.restoreBackup, lost, if_true]
    rfl
  | false =>
    simp only [State.restoreBackup, lost, Bool.false_eq_true, if_false]
    rfl

end Sys2Proof.Machine
end

section
/-! PROOF. O2: every command answers a next state, and neither reads nor changes the queue. Each shared operation and each command's meaning commutes with a change of the queue. -/

namespace Sys2Proof.Machine

section

variable (s : State) (q : List Instr)

/-! ### What is read of a state does not depend on its queue -/

@[simp] theorem State.withPending_running : (s.withPending q).running = s.running := rfl
@[simp] theorem State.withPending_now : (s.withPending q).now = s.now := rfl
@[simp] theorem State.withPending_installed : (s.withPending q).installed = s.installed := rfl
@[simp] theorem State.withPending_lockedOut : (s.withPending q).lockedOut = s.lockedOut := rfl
@[simp] theorem State.withPending_entry : (s.withPending q).entry = s.entry := rfl
@[simp] theorem State.withPending_fallback : (s.withPending q).fallback = s.fallback := rfl
@[simp] theorem State.withPending_resolveZone : (s.withPending q).resolveZone = s.resolveZone := rfl
@[simp] theorem State.withPending_nextScanZone : (s.withPending q).nextScanZone = s.nextScanZone := rfl
@[simp] theorem State.withPending_inService (p : Port) : (s.withPending q).inService p = s.inService p := rfl
@[simp] theorem State.withPending_serviceOf (p : Port) (row : CatalogueRow) :
    (s.withPending q).serviceOf p row = s.serviceOf p row := rfl

/-! ### Replacing a part, and the operations that only do so, commute with a change of the queue -/

@[simp] theorem State.withPending_withPorts (x : PortPair LinkPort) :
    (s.withPending q).withPorts x = (s.withPorts x).withPending q := rfl
@[simp] theorem State.withPending_withStore (x : TableStore) :
    (s.withPending q).withStore x = (s.withStore x).withPending q := rfl
@[simp] theorem State.withPending_withClock (x : ClockUnit) :
    (s.withPending q).withClock x = (s.withClock x).withPending q := rfl
@[simp] theorem State.withPending_withAmbient (x : Ambient) :
    (s.withPending q).withAmbient x = (s.withAmbient x).withPending q := rfl
@[simp] theorem State.withPending_withAuthority (x : Authority) :
    (s.withPending q).withAuthority x = (s.withAuthority x).withPending q := rfl
@[simp] theorem State.withPending_withResolver (x : ZoneBank ResolverZone) :
    (s.withPending q).withResolver x = (s.withResolver x).withPending q := rfl
@[simp] theorem State.withPending_withDrive (x : Drive) :
    (s.withPending q).withDrive x = (s.withDrive x).withPending q := rfl
@[simp] theorem State.withPending_withMonitor (x : Monitor) :
    (s.withPending q).withMonitor x = (s.withMonitor x).withPending q := rfl
@[simp] theorem State.withPending_withRecorder (x : Recorder) :
    (s.withPending q).withRecorder x = (s.withRecorder x).withPending q := rfl
@[simp] theorem State.withPending_withAttention (x : Attention) :
    (s.withPending q).withAttention x = (s.withAttention x).withPending q := rfl
@[simp] theorem State.withPending_withSupply (x : Supply) :
    (s.withPending q).withSupply x = (s.withSupply x).withPending q := rfl
@[simp] theorem State.withPending_modChannel (z : Zone) (f : Channel → Channel) :
    (s.withPending q).modChannel z f = (s.modChannel z f).withPending q := rfl
@[simp] theorem State.withPending_modMonitor (z : Zone) (f : MonitorZone → MonitorZone) :
    (s.withPending q).modMonitor z f = (s.modMonitor z f).withPending q := rfl
@[simp] theorem State.withPending_setEntry (z : Zone) (k : FaultKind) (e : FaultEntry) :
    (s.withPending q).setEntry z k e = (s.setEntry z k e).withPending q := rfl
@[simp] theorem State.withPending_setCount (z : Zone) (k : FaultKind) (n : Nat) :
    (s.withPending q).setCount z k n = (s.setCount z k n).withPending q := rfl
@[simp] theorem State.withPending_report (r : Report) :
    (s.withPending q).report r = (s.report r).withPending q := rfl
@[simp] theorem State.withPending_modConditions (f : Conditions → Conditions) :
    (s.withPending q).modConditions f = (s.modConditions f).withPending q := rfl
@[simp] theorem State.withPending_killBegins (mask : ZoneMask) (zones : Zone → Bool) :
    (s.withPending q).killBegins mask zones = (s.killBegins mask zones).withPending q := rfl
@[simp] theorem State.withPending_killEnds (mask : ZoneMask) :
    (s.withPending q).killEnds mask = (s.killEnds mask).withPending q := rfl
@[simp] theorem State.withPending_lockOut (z : Zone) :
    (s.withPending q).lockOut z = (s.lockOut z).withPending q := rfl
@[simp] theorem State.withPending_assertFault (z : Zone) (k : FaultKind) (detail : Nat) :
    (s.withPending q).assertFault z k detail = (s.assertFault z k detail).withPending q := rfl
@[simp] theorem State.withPending_loadPresence :
    (s.withPending q).loadPresence = s.loadPresence.withPending q := rfl
@[simp] theorem State.withPending_beginReset (source : ResetCause) :
    (s.withPending q).beginReset source = (s.beginReset source).withPending q := rfl
@[simp] theorem State.withPending_setSensorCondition (i : Fin 3) (b : Bool) :
    (s.withPending q).setSensorCondition i b = (s.setSensorCondition i b).withPending q := rfl
@[simp] theorem State.withPending_latchGrade :
    (s.withPending q).latchGrade = s.latchGrade.withPending q := rfl
@[simp] theorem State.withPending_complete (p : Port) (resp : Response) :
    (s.withPending q).complete p resp = (s.complete p resp).withPending q := rfl
@[simp] theorem State.withPending_withStack (l : List Override) :
    (s.withPending q).withStack l = (s.withStack l).withPending q := rfl
@[simp] theorem State.withPending_endLockout (z : Zone) :
    (s.withPending q).endLockout z = (s.endLockout z).withPending q := rfl
@[simp] theorem State.withPending_modPort (p : Port) (f : LinkPort → LinkPort) :
    (s.withPending q).modPort p f = (s.modPort p f).withPending q := rfl
@[simp] theorem State.withPending_resetMain (lost : Bool) (a o : Fin 4) :
    (s.withPending q).resetMain lost a o = (s.resetMain lost a o).withPending q := rfl
@[simp] theorem State.withPending_clearZone (z : Zone) :
    (s.withPending q).clearZone z = (s.clearZone z).withPending q := rfl
@[simp] theorem State.withPending_setOperator (mask : ZoneMask) (m : OperatorMode) :
    (s.withPending q).setOperator mask m = (s.setOperator mask m).withPending q := rfl

/-! ### The operations that branch commute with a change of the queue -/

/-! The change of the queue is taken outside a branch whose condition still reads the changed state; `rfl` then sees that
the condition does not depend on the queue. -/

theorem State.ite_withPending {q : List Instr} {c : Prop} [Decidable c] (t u : State) :
    (if c then t.withPending q else u.withPending q) = (if c then t else u).withPending q :=
  (apply_ite (State.withPending · q) c t u).symm

@[simp] theorem State.withPending_setAuthority (a : Authority) :
    (s.withPending q).setAuthority a = (s.setAuthority a).withPending q := by
  simp only [State.setAuthority, withPending_withAuthority, withPending_killBegins, withPending_killEnds,
    ite_withPending]
  simp only [withPending_authority]
  split <;> rfl

@[simp] theorem State.withPending_qualify (z : Zone) (k : FaultKind) (o : SampleOutcome) (detail : Nat) :
    (s.withPending q).qualify z k o detail = (s.qualify z k o detail).withPending q := by
  cases o with
  | bad =>
    rcases Nat.lt_or_ge ((s.entry z k).count + 1) s.monitor.limit with below | reached
    · rw [qualify_bad_of_lt below, qualify_bad_of_lt (s := s.withPending q) below]
      rfl
    cases flag : (s.entry z k).asserted with
    | true =>
      rw [qualify_bad_of_asserted reached flag, qualify_bad_of_asserted (s := s.withPending q) reached flag]
      rfl
    | false =>
      rw [qualify_bad_of_clear reached flag, qualify_bad_of_clear (s := s.withPending q) reached flag]
      simp only [withPending_setEntry, withPending_report, withPending_lockOut, ite_withPending]
      rfl
  | good =>
    simp only [State.qualify, withPending_setCount, withPending_setEntry, withPending_report, ite_withPending]
    rfl
  | none => rfl

@[simp] theorem State.withPending_authorityHeard :
    (s.withPending q).authorityHeard = s.authorityHeard.withPending q := by
  simp only [State.authorityHeard, withPending_authority]
  split <;> rfl

@[simp] theorem State.withPending_presenceRunOut :
    (s.withPending q).presenceRunOut = s.presenceRunOut.withPending q := by
  simp only [State.presenceRunOut, withPending_authority]
  split <;> rfl

@[simp] theorem State.withPending_expireOverrides :
    (s.withPending q).expireOverrides = s.expireOverrides.withPending q := by
  simp only [State.expireOverrides, withPending_authority]
  split <;> rfl

@[simp] theorem State.withPending_endSyncLost :
    (s.withPending q).endSyncLost = s.endSyncLost.withPending q := by
  simp only [State.endSyncLost, withPending_withDrive, withPending_modConditions, withPending_report, ite_withPending]
  rfl

@[simp] theorem State.withPending_syncEffects :
    (s.withPending q).syncEffects = s.syncEffects.withPending q := by
  simp only [State.syncEffects, withPending_endSyncLost, withPending_withDrive, ite_withPending]
  rfl

@[simp] theorem State.withPending_reportSensor (i : Fin 3) (before after : SensorReason) :
    (s.withPending q).reportSensor i before after = (s.reportSensor i before after).withPending q := by
  simp only [State.reportSensor, withPending_setSensorCondition, withPending_report, ite_withPending]

@[simp] theorem State.withPending_measureBattery (mv : Nat) :
    (s.withPending q).measureBattery mv = (s.measureBattery mv).withPending q := by
  simp only [State.measureBattery, withPending_withSupply, withPending_modConditions, withPending_report,
    ite_withPending]
  rfl

@[simp] theorem State.withPending_batteryAtSecond (mv : Nat) :
    (s.withPending q).batteryAtSecond mv = (s.batteryAtSecond mv).withPending q := by
  simp only [State.batteryAtSecond, withPending_measureBattery, ite_withPending]
  rfl

@[simp] theorem State.withPending_authoritySecond :
    (s.withPending q).authoritySecond = s.authoritySecond.withPending q := by
  simp only [State.authoritySecond, withPending_withAuthority, withPending_expireOverrides, withPending_presenceRunOut,
    ite_withPending]
  rfl

@[simp] theorem State.withPending_takeEblank (high : Bool) :
    (s.withPending q).takeEblank high = (s.takeEblank high).withPending q := by
  simp only [State.takeEblank, withPending_setAuthority]
  rfl

theorem State.withPending_foldl {α : Type} {f : State → α → State}
    (commutes : ∀ t x, f (t.withPending q) x = (f t x).withPending q) (l : List α) :
    l.foldl f (s.withPending q) = (l.foldl f s).withPending q := by
  induction l generalizing s with
  | nil => rfl
  | cons x rest ih => rw [List.foldl_cons, commutes, ih, List.foldl_cons]

@[simp] theorem State.withPending_reportParity :
    (s.withPending q).reportParity = s.reportParity.withPending q := by
  simp only [State.reportParity, withPending_clock, withPending_withClock]
  exact withPending_foldl _ q (fun _ _ => rfl) _

@[simp] theorem State.withPending_evaluate : (s.withPending q).evaluate = s.evaluate.withPending q := by
  simp only [State.evaluate, withPending_reportParity, withPending_withClock, ite_withPending]
  rfl

@[simp] theorem State.withPending_secondRollover :
    (s.withPending q).secondRollover = s.secondRollover.withPending q := by
  simp only [State.secondRollover, withPending_withClock, withPending_evaluate, ite_withPending]
  rfl

@[simp] theorem State.withPending_setClock (time : CivilTime) :
    (s.withPending q).setClock time = (s.setClock time).withPending q := by
  simp only [State.setClock, withPending_withClock, withPending_modConditions, withPending_report, ite_withPending,
    withPending_evaluate]
  rfl

@[simp] theorem State.withPending_storeEpoch (i : Fin 24) (f : EpochFields) :
    (s.withPending q).storeEpoch i f = (s.storeEpoch i f).withPending q := by
  simp only [State.storeEpoch, withPending_withClock, withPending_evaluate]
  rfl

@[simp] theorem State.withPending_setGrants (g : GrantMap) :
    (s.withPending q).setGrants g = ((s.setGrants g).1.withPending q, (s.setGrants g).2) := by
  simp only [State.setGrants, withPending_withStore, withPending_withAttention, withPending_withAmbient,
    ite_withPending]
  rfl

@[simp] theorem State.withPending_sampleOn (z : Zone) (at_ : Nat) (off : Option Nat) (current : Nat) :
    (s.withPending q).sampleOn z at_ off current = (s.sampleOn z at_ off current).withPending q := by
  simp only [State.sampleOn, withPending_modMonitor, withPending_withDrive, withPending_qualify, ite_withPending]
  rfl

@[simp] theorem State.withPending_sampleOff (z : Zone) (at_ : Nat) (current : Nat) :
    (s.withPending q).sampleOff z at_ current = (s.sampleOff z at_ current).withPending q := by
  simp only [State.sampleOff, withPending_modMonitor, withPending_withDrive, withPending_qualify]
  rfl

@[simp] theorem State.withPending_convert (z : Zone) (code : Nat) :
    (s.withPending q).convert z code = (s.convert z code).withPending q := by
  simp only [State.convert, withPending_modMonitor, withPending_qualify, ite_withPending]
  rfl

@[simp] theorem State.withPending_setFaultSetup (mask : ZoneMask) (a : FaultSetupArgs) (n : Nat) :
    (s.withPending q).setFaultSetup mask a n = (s.setFaultSetup mask a n).withPending q := by
  simp only [State.setFaultSetup, withPending_withMonitor, withPending_withDrive, withPending_withRecorder,
    ite_withPending]
  rfl

@[simp] theorem State.withPending_rearmKind (z : Zone) (k : FaultKind) :
    (s.withPending q).rearmKind z k = (s.rearmKind z k).withPending q := by
  simp only [State.rearmKind, withPending_setEntry, withPending_report, ite_withPending]
  rfl

@[simp] theorem State.withPending_rearm (z : Zone) :
    (s.withPending q).rearm z = (s.rearm z).withPending q := by
  simp only [State.rearm, withPending_foldl s q (f := fun u k => u.rearmKind z k)
    (fun t k => withPending_rearmKind t q z k), withPending_endLockout,
    ite_withPending]
  rfl

@[simp] theorem State.withPending_handOver (p : Port) :
    (s.withPending q).handOver p = (s.handOver p).withPending q := by
  simp only [State.handOver, withPending_store]
  split <;> rfl

@[simp] theorem State.withPending_take (p : Port) (r : Request) :
    (s.withPending q).take p r = (s.take p r).withPending q := by
  cases p with
  | a => simp only [State.take, withPending_modPort, withPending_authorityHeard, withPending_handOver]
  | o => simp only [State.take, withPending_modPort, withPending_handOver]

@[simp] theorem State.withPending_endWrite (p : Port) :
    (s.withPending q).endWrite p = (s.endWrite p).withPending q := by
  simp only [State.endWrite, withPending_ports, withPending_take, withPending_modPort]
  split <;> rfl

@[simp] theorem State.withPending_restoreBackup :
    (s.withPending q).restoreBackup = s.restoreBackup.withPending q := by
  simp only [State.restoreBackup, withPending_withClock, withPending_withStore, withPending_withAuthority,
    ite_withPending]
  rfl

@[simp] theorem State.withPending_reportLoss (lost : Bool) :
    (s.withPending q).reportLoss lost = (s.reportLoss lost).withPending q := by
  simp only [State.reportLoss, withPending_report, ite_withPending]

@[simp] theorem State.withPending_takeFsync (high : Bool) :
    (s.withPending q).takeFsync high = (s.takeFsync high).withPending q := by
  simp only [State.takeFsync, withPending_withDrive, withPending_syncEffects, ite_withPending]
  simp only [withPending_drive]
  split <;> rfl

@[simp] theorem State.withPending_setZoneRecord (z : Zone) (rec : ZoneRecord) :
    (s.withPending q).setZoneRecord z rec = (s.setZoneRecord z rec).withPending q := by
  simp only [State.setZoneRecord, withPending_installed]
  split <;> rfl

@[simp] theorem State.withPending_setDriveTiming (f : BaseFrequency) (e : EdgeMode) (m : SwapMode) :
    (s.withPending q).setDriveTiming f e m = (s.setDriveTiming f e m).withPending q := by
  simp only [State.setDriveTiming, withPending_withDrive, withPending_endSyncLost, ite_withPending]
  rfl

end

/-! ### Commands -/

/-- A meaning that answers a next state in every state and neither reads nor changes the queue. -/
def Completes (run : State → Host.Outcome State Fault Refusal) : Prop :=
  ∀ s, ∃ t, run s = .next t ∧ ∀ q, run (s.withPending q) = .next (t.withPending q)

theorem completes_next {f : State → State} (commutes : ∀ s q, f (s.withPending q) = (f s).withPending q) :
    Completes fun s => .next (f s) :=
  fun s => ⟨f s, rfl, fun q => congrArg _ (commutes s q)⟩

/-- What a service does commutes with a change of the queue where the request's own rule does. -/
theorem completes_serve {p : Port} {row : CatalogueRow} {body : Request → State → State × Response}
    (commutes : ∀ r s q, body r (s.withPending q) = ((body r s).1.withPending q, (body r s).2)) :
    Completes fun s => .next (s.serve p row body) := by
  refine completes_next fun s q => ?_
  simp only [State.serve, State.withPending_serviceOf]
  cases s.serviceOf p row with
  | none => rfl
  | some r =>
    have answered : (s.withPending q).answer p row r body =
        ((s.answer p row r body).1.withPending q, (s.answer p row r body).2) := by
      simp only [State.answer, State.withPending_store, commutes]
      split_ifs <;> rfl
    simp only [answered, State.withPending_complete]

theorem ite_respond_withPending {q : List Instr} {c : Prop} [Decidable c] (t u : State) (x y : Response) :
    (if c then (t.withPending q, x) else (u.withPending q, y)) =
      ((if c then t else u).withPending q, if c then x else y) := by
  split_ifs <;> rfl

theorem completes_serveRead {p : Port} {row : CatalogueRow} {resp : Request → State → Response}
    (same : ∀ r s q, resp r (s.withPending q) = resp r s) : Completes fun s => .next (s.serveRead p row resp) :=
  completes_serve fun r s q => congrArg (s.withPending q, ·) (same r s q)

/-! #### Events -/

theorem execResolveExpiry_completes : Completes execResolveExpiry := by
  refine completes_next fun s q => ?_
  simp only [State.withPending_withResolver, State.withPending_withDrive, State.withPending_withMonitor,
    State.ite_withPending]
  rfl

theorem execGateCompletion_completes (e0 e1 e2 : Nat) : Completes (execGateCompletion e0 e1 e2) := by
  refine completes_next fun s q => ?_
  simp only [State.withPending_withAmbient, State.withPending_reportSensor, State.withPending_latchGrade,
    State.ite_withPending]
  rfl

theorem execSecondRollover_completes : Completes execSecondRollover := by
  refine completes_next fun s q => ?_
  simp only [State.withPending_secondRollover, State.ite_withPending]
  rfl

theorem execTimebaseFailure_completes (prescaler : Fin 32768) : Completes (execTimebaseFailure prescaler) := by
  refine completes_next fun s q => ?_
  simp only [State.withPending_withClock, State.withPending_modConditions, State.withPending_report,
    State.ite_withPending]
  rfl

theorem execTimebaseFirstEdge_completes : Completes execTimebaseFirstEdge := by
  refine completes_next fun s q => ?_
  simp only [State.withPending_withClock, State.withPending_secondRollover, State.ite_withPending]
  rfl

theorem execUptimeSecond_completes (mv : Nat) (first : Bool) : Completes (execUptimeSecond mv first) := by
  refine completes_next fun s q => ?_
  simp only [State.withPending_withSupply, State.withPending_batteryAtSecond, State.withPending_authoritySecond,
    State.ite_withPending]
  rfl

theorem execOverrideExpired_completes : Completes execOverrideExpired := by
  refine completes_next fun s q => ?_
  simp only [State.withPending_expireOverrides, State.ite_withPending]
  rfl

theorem execPresenceTimeout_completes : Completes execPresenceTimeout := by
  refine completes_next fun s q => ?_
  simp only [State.withPending_presenceRunOut, State.ite_withPending]
  rfl

theorem execPeriodEnd_completes (z : Zone) : Completes (execPeriodEnd z) := by
  refine completes_next fun s q => ?_
  simp only [State.withPending_withDrive, State.withPending_modMonitor, State.ite_withPending]
  rfl

theorem execCountClockSwitch_completes : Completes execCountClockSwitch := by
  refine completes_next fun s q => ?_
  simp only [State.withPending_withDrive, State.ite_withPending]
  rfl

theorem execSamplePoint_completes (z : Zone) (pt : SamplePoint) (current : Nat) :
    Completes (execSamplePoint z pt current) := by
  refine completes_next fun s q => ?_
  simp only [State.withPending_running, State.withPending_installed, State.withPending_lockedOut,
    State.withPending_monitor, State.withPending_sampleOn, State.withPending_sampleOff]
  split
  · split <;> rfl
  · rfl

theorem execConversionCompletion_completes (code : Fin 1024) : Completes (execConversionCompletion code) := by
  refine completes_next fun s q => ?_
  simp only [State.withPending_monitor]
  cases s.monitor.scan with
  | none => rfl
  | some c =>
    simp only [State.withPending_convert, State.withPending_withMonitor, State.ite_withPending]
    rfl

theorem execEblankActiveEdge_completes : Completes execEblankActiveEdge := by
  refine completes_next fun s q => ?_
  simp only [State.withPending_authority]
  cases s.authority.eblank with
  | none => rfl
  | some high =>
    simp only [State.withPending_takeEblank, State.ite_withPending]
    rfl

theorem execEblankInactiveEdge_completes : Completes execEblankInactiveEdge := by
  refine completes_next fun s q => ?_
  simp only [State.withPending_authority]
  cases s.authority.eblank with
  | none => rfl
  | some high =>
    simp only [State.withPending_takeEblank, State.ite_withPending]
    rfl

theorem execKillStartUpTake_completes (high : Bool) : Completes (execKillStartUpTake high) := by
  refine completes_next fun s q => ?_
  simp only [State.withPending_authority]
  cases s.authority.eblank with
  | none =>
    simp only [State.withPending_takeEblank, State.ite_withPending]
    rfl
  | some _ => rfl

theorem execFsyncLevelTaken_completes (high : Bool) : Completes (execFsyncLevelTaken high) := by
  refine completes_next fun s q => ?_
  simp only [State.withPending_takeFsync, State.ite_withPending]
  rfl

theorem execSyncEvent_completes (high : Bool) : Completes (execSyncEvent high) := by
  refine completes_next fun s q => ?_
  simp only [State.withPending_takeFsync, State.ite_withPending]
  rfl

theorem execSyncWatchExpiry_completes : Completes execSyncWatchExpiry := by
  refine completes_next fun s q => ?_
  simp only [State.withPending_withDrive, State.withPending_modConditions, State.withPending_report,
    State.ite_withPending]
  rfl

theorem execBackupStorageDisturbance_completes (index : Fin 24) (contents : EpochContents) :
    Completes (execBackupStorageDisturbance index contents) :=
  completes_next fun _ _ => rfl

/-! #### The link and the supply -/

theorem execRequestTaken_completes (w : Taking) : Completes (execRequestTaken w) := by
  refine completes_next fun s q => ?_
  cases w with
  | one p =>
    simp only [State.withPending_endWrite, State.ite_withPending]
    rfl
  | both =>
    simp only [State.withPending_endWrite, State.ite_withPending]
    rfl

theorem execWriteAddress_completes (p : Port) (addr : Address) : Completes (execWriteAddress p addr) := by
  refine completes_next fun s q => ?_
  simp only [State.withPending_endWrite, State.withPending_modPort, State.ite_withPending]
  rfl

theorem execDataByte_completes (p : Port) (b : Byte) : Completes (execDataByte p b) := by
  refine completes_next fun s q => ?_
  simp only [State.withPending_modPort, State.ite_withPending]
  rfl

theorem execResponseRead_completes (p : Port) (addr : Address) : Completes (execResponseRead p addr) := by
  refine completes_next fun s q => ?_
  simp only [State.withPending_endWrite, State.withPending_modPort, State.ite_withPending]
  rfl

theorem execUnknownCode_completes (p : Port) : Completes (execUnknownCode p) := by
  refine completes_next fun s q => ?_
  simp only [State.withPending_inService]
  cases s.inService p with
  | none => rfl
  | some r => simp only [State.withPending_complete, State.ite_withPending]

theorem execBrownOut_completes : Completes execBrownOut := by
  refine completes_next fun s q => ?_
  simp only [State.withPending_beginReset, State.withPending_withSupply, State.ite_withPending]
  rfl

theorem execResetNAssert_completes : Completes execResetNAssert := by
  refine completes_next fun s q => ?_
  simp only [State.withPending_beginReset, State.withPending_withSupply, State.ite_withPending]
  rfl

theorem execRetentionLoss_completes : Completes execRetentionLoss := by
  refine completes_next fun s q => ?_
  simp only [State.withPending_withSupply, State.ite_withPending]
  rfl

theorem execDeviceReset_completes (p : Port) : Completes (execDeviceReset p) := by
  refine completes_next fun s q => ?_
  simp only [State.withPending_serviceOf]
  cases s.serviceOf p rowDeviceReset with
  | none => rfl
  | some r =>
    simp only [State.withPending_complete, State.withPending_beginReset, State.ite_withPending]
    rfl

theorem execMainResetEnd_completes (strapA strapO : Fin 4) : Completes (execMainResetEnd strapA strapO) := by
  refine completes_next fun s q => ?_
  simp only [State.withPending_restoreBackup, State.withPending_resetMain, State.withPending_reportLoss,
    State.withPending_evaluate, State.ite_withPending]
  rfl

/-! #### Requests that change something besides the link -/

section

variable (p : Port)

theorem execClockSet_completes : Completes (execClockSet p) := by
  refine completes_serve fun r s q => ?_
  simp only [State.withPending_clock, State.withPending_setClock]
  split_ifs <;> rfl

theorem execEpochWrite_completes : Completes (execEpochWrite p) := by
  refine completes_serve fun r s q => ?_
  cases r.entry 0 with
  | none => rfl
  | some i =>
    simp only [State.withPending_storeEpoch]
    split_ifs <;> rfl

theorem execEpochErase_completes : Completes (execEpochErase p) := by
  refine completes_serve fun r s q => ?_
  cases r.entry 0 with
  | none => rfl
  | some i => simp only [State.withPending_storeEpoch, State.withPending_clock]

theorem execCurveWrite_completes : Completes (execCurveWrite p) := by
  refine completes_serve fun r s q => ?_
  simp only [State.withPending_ambient, State.withPending_withAmbient]
  split_ifs <;> rfl

theorem execSensorSetup_completes : Completes (execSensorSetup p) := by
  refine completes_serve fun r s q => ?_
  simp only [State.withPending_ambient, State.withPending_withAmbient]
  split_ifs <;> rfl

theorem execZoneSetup_completes : Completes (execZoneSetup p) := by
  refine completes_serve fun r s q => ?_
  simp only [State.withPending_setZoneRecord]
  split <;> rfl

theorem execGainWrite_completes : Completes (execGainWrite p) := by
  refine completes_serve fun r s q => ?_
  simp only [State.withPending_resolver, State.withPending_withResolver]
  split_ifs <;> rfl

theorem execZoneMode_completes : Completes (execZoneMode p) := by
  refine completes_serve fun r s q => ?_
  cases OperatorMode.ofCode (r.u1 2) with
  | none => rfl
  | some m =>
    simp only [State.withPending_setOperator]
    split_ifs <;> rfl

theorem execOvrPush_completes : Completes (execOvrPush p) := by
  refine completes_serve fun r s q => ?_
  simp only [State.withPending_authority, State.withPending_withStack]
  cases OverrideKind.ofCode (r.u1 1) with
  | none => rfl
  | some kind =>
    dsimp only
    split
    · rfl
    · split <;> rfl

theorem execOvrRemove_completes : Completes (execOvrRemove p) := by
  refine completes_serve fun r s q => ?_
  simp only [State.withPending_withStack, ite_respond_withPending, apply_ite Prod.fst, apply_ite Prod.snd]
  rfl

theorem execOvrClear_completes : Completes (execOvrClear p) :=
  completes_serve fun _ _ _ => rfl

theorem execKillSetup_completes : Completes (execKillSetup p) := by
  refine completes_serve fun r s q => ?_
  simp only [State.withPending_authority, State.withPending_setAuthority]
  split
  · split_ifs <;> rfl
  · rfl

theorem execKillRelease_completes : Completes (execKillRelease p) := by
  refine completes_serve fun r s q => ?_
  simp only [State.withPending_authority, State.withPending_setAuthority]
  split_ifs <;> rfl

theorem execAuthSetup_completes : Completes (execAuthSetup p) := by
  refine completes_serve fun r s q => ?_
  simp only [State.withPending_authority, State.withPending_withAuthority, State.withPending_loadPresence]
  split_ifs <;> rfl

theorem execGrantSet_completes : Completes (execGrantSet p) := by
  refine completes_serve fun r s q => ?_
  cases r.grants with
  | none => rfl
  | some g => simp only [State.withPending_setGrants]

theorem execFaultSetup_completes : Completes (execFaultSetup p) := by
  refine completes_serve fun r s q => ?_
  cases r.faultSetup with
  | none => rfl
  | some a =>
    simp only [State.withPending_setFaultSetup]
    split_ifs <;> rfl

theorem execZoneRearm_completes : Completes (execZoneRearm p) := by
  refine completes_serve fun r s q => ?_
  cases r.zone 0 with
  | none => rfl
  | some z =>
    simp only [State.withPending_installed, State.withPending_rearm]
    split_ifs <;> rfl

theorem execDriveSetup_completes : Completes (execDriveSetup p) := by
  refine completes_serve fun r s q => ?_
  simp only [State.withPending_setDriveTiming]
  split <;> rfl

end

/-- Command by command; a request that only reads gives its response from parts of the state other than the queue. -/
theorem exec_completes (c : Instr) : Completes (exec c) := by
  cases c with
  | resolveExpiry => exact execResolveExpiry_completes
  | gateCompletion e0 e1 e2 => exact execGateCompletion_completes e0 e1 e2
  | secondRollover => exact execSecondRollover_completes
  | timebaseFailure prescaler => exact execTimebaseFailure_completes prescaler
  | timebaseFirstEdge => exact execTimebaseFirstEdge_completes
  | uptimeSecond mv first => exact execUptimeSecond_completes mv first
  | overrideExpired => exact execOverrideExpired_completes
  | presenceTimeout => exact execPresenceTimeout_completes
  | periodEnd z => exact execPeriodEnd_completes z
  | countClockSwitch => exact execCountClockSwitch_completes
  | samplePoint z pt current => exact execSamplePoint_completes z pt current
  | conversionCompletion code => exact execConversionCompletion_completes code
  | eblankActiveEdge => exact execEblankActiveEdge_completes
  | eblankInactiveEdge => exact execEblankInactiveEdge_completes
  | killStartUpTake high => exact execKillStartUpTake_completes high
  | syncEvent high => exact execSyncEvent_completes high
  | syncWatchExpiry => exact execSyncWatchExpiry_completes
  | requestTaken w => exact execRequestTaken_completes w
  | responseRead p addr => exact execResponseRead_completes p addr
  | unknownCode p => exact execUnknownCode_completes p
  | status p => exact completes_serveRead fun _ _ _ => rfl
  | clockRead p => exact completes_serveRead fun _ _ _ => rfl
  | clockSet p => exact execClockSet_completes p
  | epochRead p => exact completes_serveRead fun _ _ _ => rfl
  | epochWrite p => exact execEpochWrite_completes p
  | epochErase p => exact execEpochErase_completes p
  | curveRead p => exact completes_serveRead fun _ _ _ => rfl
  | curveWrite p => exact execCurveWrite_completes p
  | sensorRead p => exact completes_serveRead fun _ _ _ => rfl
  | sensorSetup p => exact execSensorSetup_completes p
  | zoneRead p => exact completes_serveRead fun _ _ _ => rfl
  | zoneSetup p => exact execZoneSetup_completes p
  | gainRead p => exact completes_serveRead fun _ _ _ => rfl
  | gainWrite p => exact execGainWrite_completes p
  | zoneMode p => exact execZoneMode_completes p
  | levelRead p => exact completes_serveRead fun _ _ _ => rfl
  | ovrPush p => exact execOvrPush_completes p
  | ovrRemove p => exact execOvrRemove_completes p
  | ovrClear p => exact execOvrClear_completes p
  | ovrList p => exact completes_serveRead fun _ _ _ => rfl
  | killSetup p => exact execKillSetup_completes p
  | killRelease p => exact execKillRelease_completes p
  | authSetup p => exact execAuthSetup_completes p
  | authRead p => exact completes_serveRead fun _ _ _ => rfl
  | grantSet p => exact execGrantSet_completes p
  | grantRead p => exact completes_serveRead fun _ _ _ => rfl
  | faultSetup p => exact execFaultSetup_completes p
  | faultRead p => exact completes_serveRead fun _ _ _ => rfl
  | zoneRearm p => exact execZoneRearm_completes p
  | journalRead p => exact completes_serve fun _ _ _ => rfl
  | attnRead p => exact completes_serve fun _ _ _ => rfl
  | attnMask p => exact completes_serve fun _ _ _ => rfl
  | driveSetup p => exact execDriveSetup_completes p
  | deviceReset p => exact execDeviceReset_completes p
  | brownOut => exact execBrownOut_completes
  | mainSupplyRise => exact completes_next fun _ _ => rfl
  | resetNAssert => exact execResetNAssert_completes
  | resetNRelease => exact completes_next fun _ _ => rfl
  | mainResetEnd strapA strapO => exact execMainResetEnd_completes strapA strapO
  | retentionLoss => exact execRetentionLoss_completes
  | writeAddress p addr => exact execWriteAddress_completes p addr
  | dataByte p b => exact execDataByte_completes p b
  | fsyncLevelTaken high => exact execFsyncLevelTaken_completes high
  | backupStorageDisturbance index contents => exact execBackupStorageDisturbance_completes index contents

/-- Settles O2: every command's meaning answers, and commutes with a change of the queue. -/
theorem everyCommandCompletesAndLeavesTheQueue : Obligations.EveryCommandCompletesAndLeavesTheQueue :=
  exec_completes

end Sys2Proof.Machine
end
